-- ==== Sys2Proof/Word.lean ====
section
/-! DEFINITION. The two word types of the machine and the type of a byte memory (spec 00_scope.md R6, R7). -/

namespace Sys2Proof

/-- A register or bus transfer of 8 bits (R6: data width). -/
abbrev Byte := BitVec 8

/-- An address or the program counter: 16 bits (R6: CPU address width). -/
abbrev Word := BitVec 16

/-- A byte memory as plain data: the listed cells, addresses strictly rising, no cell holding 0, which is what an
unlisted address reads as (10_state.md R150: every memory is zero at reset). `Memory.wf` states the form. -/
abbrev Memory := List Host.Cell

end Sys2Proof
end

