-- ==== Sys2Proof/Machine/Memory.lean ====
section
/-! DEFINITION. The byte memory every memory of the block is made of (10_state.md R110 to R115): reading, writing, the
canonical form, and an image made from a list of bytes. -/

namespace Sys2Proof

/-- The byte at an address; an unlisted address reads 0, the reset value of every memory (10_state.md R150). -/
def Memory.read : Memory → Nat → Byte
  | [], _ => 0#8
  | (k, v) :: m, a => if k = a then v else Memory.read m a

/-- The memory with one byte changed, in canonical form again: writing 0 unlists the address. -/
def Memory.write : Memory → Nat → Byte → Memory
  | [], a, v => if v = 0#8 then [] else [(a, v)]
  | (k, x) :: m, a, v =>
    if a < k then (if v = 0#8 then (k, x) :: m else (a, v) :: (k, x) :: m)
    else if a = k then (if v = 0#8 then m else (a, v) :: m)
    else (k, x) :: Memory.write m a v

/-- The canonical form: addresses strictly rising, and no listed byte is 0. -/
abbrev Memory.wf (m : Memory) : Prop := m.Pairwise (fun p q => p.1 < q.1) ∧ ∀ c ∈ m, c.2 ≠ 0#8

/-- Every listed address is below `n`: the memory fits a store of `n` bytes. -/
abbrev Memory.below (m : Memory) (n : Nat) : Prop := ∀ c ∈ m, c.1 < n

/-- The memory holding the given bytes from address `k` on. -/
def Memory.ofBytesFrom : Nat → List Byte → Memory
  | _, [] => []
  | k, b :: bs => if b = 0#8 then Memory.ofBytesFrom (k + 1) bs else (k, b) :: Memory.ofBytesFrom (k + 1) bs

/-- The memory holding the given bytes from address 0 on. -/
def Memory.ofBytes (bs : List Byte) : Memory := Memory.ofBytesFrom 0 bs

end Sys2Proof
end

