-- ==== Sys2Proof/Config.lean ====
section
/-! DEFINITION. What is fixed while the machine runs: the cartridge configuration and the implementation parameters of
00_scope.md R5 and R6, as plain data. They stand in State (field `cfg`), so a statement over every state speaks of every
value of every parameter, as 92_eei_decisions.md asks of a claim. No value of the spec is left undefined
(93_implementation_defined.md I13), so there is no free value here. -/

namespace Sys2Proof

/-- Nametable mirroring MIRRORING (R6, 20_memory.md R222). -/
inductive Mirroring where
  | horizontal | vertical
  deriving DecidableEq, Repr

/-- PAGE_CROSS_POLICY: which instructions pay the page-cross cycle (70_reset_and_hazards.md R722). -/
inductive PageCrossPolicy where
  | coarse | strict
  deriving DecidableEq, Repr

/-- BRANCH_CROSS_BASE: what a branch target's page is compared with (30_encoding.md R309). -/
inductive BranchCrossBase where
  | opcodeAddr | nextPC
  deriving DecidableEq, Repr

/-- DMA_STALL_CYCLES: 513 or 514 (60_exceptions.md R642). -/
inductive DmaStall where
  | cycles513 | cycles514
  deriving DecidableEq, Repr

/-- DMA_HIGH_PAGE_SOURCE: where a DMA byte is read (60_exceptions.md R641). -/
inductive DmaHighPageSource where
  | ramMirror | cpuBus
  deriving DecidableEq, Repr

/-- The size of the PRG image: one or two banks of 16 KiB, the only sizes of 92_eei_decisions.md D2. -/
inductive PrgSize where
  | kib16 | kib32
  deriving DecidableEq, Repr

/-- The configuration and the parameters of R5 and R6. CHR memory itself is state (`Ppu.chr`); `chrIsRam` says
whether it can be written (10_state.md R112). -/
structure Config where
  prgSize : PrgSize
  prg : Memory                        -- the PRG image, offsets below the size
  chrIsRam : Bool
  mirroring : Mirroring
  baseCycles : List Nat               -- BASE_CYCLES, indexed by the opcode byte
  pageCrossPolicy : PageCrossPolicy
  branchCrossBase : BranchCrossBase
  dmaStall : DmaStall
  dmaHighPageSource : DmaHighPageSource
  paletteBgMirrorCollapse : Bool      -- PALETTE_BG_MIRROR_COLLAPSE (20_memory.md R224)
  deriving DecidableEq, Repr

/-- A cartridge as the loader (outside the block, R4) hands it over: image bytes and mirroring, unchecked. -/
structure Cartridge where
  prg : List Byte
  chr : List Byte                     -- empty for CHR-RAM
  mirroring : Mirroring
  deriving DecidableEq, Repr

end Sys2Proof
end

