-- ==== Sys2Proof/Machine/Params.lean ====
section
/-! DEFINITION. The values of the parameters: the default BASE_CYCLES table (70_reset_and_hazards.md R721), the numbers
behind the enumerated parameters, and the default configuration of 00_scope.md R6. -/

namespace Sys2Proof

/-! ### BASE_CYCLES, one list per row of R721's table; 0 stands where the table has a dash (an UNDEF byte). -/

/-- Row 0x of R721. -/
def cycleRow0 : List Nat := [7, 6, 0, 8, 3, 3, 5, 5, 3, 2, 2, 0, 4, 4, 6, 6]
/-- Row 1x of R721. -/
def cycleRow1 : List Nat := [2, 5, 0, 8, 4, 4, 6, 6, 2, 4, 2, 7, 4, 4, 7, 7]
/-- Row 2x of R721. -/
def cycleRow2 : List Nat := [6, 6, 0, 8, 3, 3, 5, 5, 4, 2, 2, 0, 4, 4, 6, 6]
/-- Row 3x of R721. -/
def cycleRow3 : List Nat := [2, 5, 0, 8, 4, 4, 6, 6, 2, 4, 2, 7, 4, 4, 7, 7]
/-- Row 4x of R721. -/
def cycleRow4 : List Nat := [6, 6, 0, 8, 3, 3, 5, 5, 3, 2, 2, 0, 3, 4, 6, 6]
/-- Row 5x of R721. -/
def cycleRow5 : List Nat := [2, 5, 0, 8, 4, 4, 6, 6, 2, 4, 2, 7, 4, 4, 7, 7]
/-- Row 6x of R721. -/
def cycleRow6 : List Nat := [6, 6, 0, 8, 3, 3, 5, 5, 4, 2, 2, 0, 5, 4, 6, 6]
/-- Row 7x of R721. -/
def cycleRow7 : List Nat := [2, 5, 0, 8, 4, 4, 6, 6, 2, 4, 2, 7, 4, 4, 7, 7]
/-- Row 8x of R721. -/
def cycleRow8 : List Nat := [2, 6, 2, 6, 3, 3, 3, 3, 2, 2, 2, 0, 4, 4, 4, 4]
/-- Row 9x of R721. -/
def cycleRow9 : List Nat := [2, 6, 0, 0, 4, 4, 4, 4, 2, 5, 2, 0, 0, 5, 0, 0]
/-- Row Ax of R721. -/
def cycleRowA : List Nat := [2, 6, 2, 6, 3, 3, 3, 3, 2, 2, 2, 0, 4, 4, 4, 4]
/-- Row Bx of R721. -/
def cycleRowB : List Nat := [2, 5, 0, 5, 4, 4, 4, 4, 2, 4, 2, 0, 4, 4, 4, 4]
/-- Row Cx of R721. -/
def cycleRowC : List Nat := [2, 6, 2, 8, 3, 3, 5, 5, 2, 2, 2, 0, 4, 4, 6, 6]
/-- Row Dx of R721. -/
def cycleRowD : List Nat := [2, 5, 0, 8, 4, 4, 6, 6, 2, 4, 2, 7, 4, 4, 7, 7]
/-- Row Ex of R721. -/
def cycleRowE : List Nat := [2, 6, 2, 8, 3, 3, 5, 5, 2, 2, 2, 2, 4, 4, 6, 6]
/-- Row Fx of R721. -/
def cycleRowF : List Nat := [2, 5, 0, 8, 4, 4, 6, 6, 2, 4, 2, 7, 4, 4, 7, 7]

/-- The NMOS 6502 base cycle table, the default of BASE_CYCLES (R721). -/
def nmosBaseCycles : List Nat :=
  cycleRow0 ++ cycleRow1 ++ cycleRow2 ++ cycleRow3 ++ cycleRow4 ++ cycleRow5 ++ cycleRow6 ++ cycleRow7 ++
  cycleRow8 ++ cycleRow9 ++ cycleRowA ++ cycleRowB ++ cycleRowC ++ cycleRowD ++ cycleRowE ++ cycleRowF

/-- The base cycles of an opcode byte under a configuration; 0 for a byte beyond a short table (log 8). -/
def Config.baseCyclesOf (c : Config) (op : Byte) : Nat := c.baseCycles.getD op.toNat 0

/-- DMA_STALL_CYCLES as a number (60_exceptions.md R642). -/
def DmaStall.toNat : DmaStall → Nat
  | .cycles513 => 513
  | .cycles514 => 514

/-- The number of bytes of the PRG image (10_state.md R111). -/
def PrgSize.bytes : PrgSize → Nat
  | .kib16 => 16384
  | .kib32 => 32768

/-- Every parameter at its default (00_scope.md R6) with a blank 32 KiB PRG image, CHR-RAM and horizontal mirroring: the
spec gives no cartridge, so these three are the model's (DESIGN CHOICE, log 2). -/
def Config.default : Config where
  prgSize := .kib32
  prg := []
  chrIsRam := true
  mirroring := .horizontal
  baseCycles := nmosBaseCycles
  pageCrossPolicy := .coarse
  branchCrossBase := .opcodeAddr
  dmaStall := .cycles514
  dmaHighPageSource := .ramMirror
  paletteBgMirrorCollapse := false

end Sys2Proof
end

