-- ==== Sys2Proof/Machine/State.lean ====
section
/-! DEFINITION. The machine's state as plain data: everything 10_state.md names (R100 to R130), the configuration and
parameters, and three fields of the model's own; the reasons a step can stop; the state right after reset (R150). -/

namespace Sys2Proof.Machine

/-- The reasons the machine stops: the fault codes of 60_exceptions.md R601 with the value each records. -/
inductive Fault where
  /-- Raised by the 25 UNDEF opcodes (44_stack_status_misc.md R532), recorded in `State.fault` by the iteration that
  executes one and answered by every later `step`. Safe: the spec itself halts there. -/
  | opcodeNotImplemented (addr : Word) (op : Byte)
  /-- The spec's code for a PRG read beyond the image (20_memory.md R204); raised by nothing, because every mirrored offset is
  in range (R601: unreachable; log 6). Safe. -/
  | busAddressOutOfRange (addr : Word)
  deriving DecidableEq, Repr

/-- The reasons the model has no meaning for an input. -/
inductive Refusal where
  /-- An instruction without a meaning yet; only arms of `exec` answer it, and no arm does. Safe. -/
  | notModelled (mnemonic : String)
  /-- A cartridge that is not well formed, refused before reset by `powerOn` (92_eei_decisions.md D2). Safe. -/
  | cartridgeFormat
  deriving DecidableEq, Repr

/-- The processor status flags N V R B D I Z C (10_state.md R104). -/
structure Status where
  n : Bool
  v : Bool
  r : Bool      -- the reserved bit
  b : Bool
  d : Bool
  i : Bool
  z : Bool
  c : Bool
  deriving DecidableEq, Repr

/-- The CPU registers (10_state.md R100, R101, R103, R104). -/
structure Cpu where
  a : Byte
  x : Byte
  y : Byte
  sp : Byte
  pc : Word
  p : Status
  deriving DecidableEq, Repr

/-- A background tile of the frame (60_exceptions.md R635, R638). -/
structure BgTile where
  index : Byte
  paletteId : BitVec 2
  pattern : List Byte      -- 16 bytes
  scrollX : Byte
  scrollY : Byte
  deriving DecidableEq, Repr

/-- A sprite of the frame (60_exceptions.md R637, R638). -/
structure Sprite where
  oamIndex : Nat           -- 0..63
  x : Byte
  y : Byte                 -- 1..254
  tile : Byte
  attr : Byte
  pattern : List Byte      -- 16 bytes
  deriving DecidableEq, Repr

/-- The product emitted at the end of scanline 261 (60_exceptions.md R638). -/
structure Frame where
  palette : List Byte      -- 32 bytes
  background : Option (List BgTile)
  sprites : Option (List Sprite)
  deriving DecidableEq, Repr

/-- The PPU: its registers and latches (10_state.md R117 to R124), its counters (R125), its memories (R112 to R115) and
the lists of the frame being built (R126). -/
structure Ppu where
  ctrl : Byte
  mask : Byte
  vblank : Bool
  sprite0Hit : Bool
  oamAddr : Byte
  scrollX : Byte
  scrollY : Byte
  vramAddr : Word
  w : Bool                 -- false selects the first write
  readBuffer : Byte
  dot : Nat                -- 0..340
  scanline : Nat           -- 0..261
  chr : Memory             -- 8192 bytes
  vram : Memory            -- 2048 bytes
  palette : Memory         -- 32 bytes
  oam : Memory             -- 256 bytes
  bgList : List BgTile
  spriteList : List Sprite
  deriving DecidableEq, Repr

/-- The OAM DMA register's backing state (10_state.md R127). -/
structure Dma where
  pending : Bool
  page : Byte
  deriving DecidableEq, Repr

/-- The controller port's backing state (10_state.md R128): bit 0 of the button bytes is A, bit 7 is RIGHT. -/
structure Controller where
  liveButtons : Byte
  snapshot : Byte
  strobe : Bool
  index : Nat              -- 0..8
  deriving DecidableEq, Repr

/-- The whole block. The last three fields are the model's own: the external IRQ input still to come (60_exceptions.md
R613; log 3) and what the latest iteration returned, its cycle count (R602, R660) and its frame (R630, R638); log 4. -/
structure State where
  cfg : Config
  cpu : Cpu
  fault : Option Fault
  nmiLine : Bool
  irqLine : Bool
  ram : Memory             -- 2048 bytes
  ppu : Ppu
  dma : Dma
  pad : Controller
  irqInput : List Bool     -- head: is IRQ asserted before the next iteration; empty: never again
  cycles : Nat
  frameOut : Option Frame
  deriving DecidableEq, Repr

/-- The three outcomes of a step of this machine. -/
abbrev Out := Host.Outcome State Fault Refusal

/-- A background tile built from zeroed CHR and VRAM. -/
def BgTile.blank : BgTile := ⟨0, 0, List.replicate 16 0, 0, 0⟩

/-- The state right after reset, every field at the value of 10_state.md R150, on the default configuration (log 2). The
PC is the word at $FFFC of the blank image, and band 0 of the background list is the one R700 step 9 builds from zeroed
memories; that it is what the reset sequence of R700 leaves (`resetSequence`) is a statement of the certificates. -/
def State.reset : State where
  cfg := Config.default
  cpu := {
    a := 0
    x := 0
    y := 0
    sp := 0xFD
    pc := 0x0000
    p := { n := false, v := false, r := true, b := true, d := false, i := true, z := false, c := false } }
  fault := none
  nmiLine := false
  irqLine := false
  ram := []
  ppu := {
    ctrl := 0
    mask := 0
    vblank := false
    sprite0Hit := false
    oamAddr := 0
    scrollX := 0
    scrollY := 0
    vramAddr := 0
    w := false
    readBuffer := 0
    dot := 0
    scanline := 0
    chr := []
    vram := []
    palette := []
    oam := []
    bgList := List.replicate 33 BgTile.blank
    spriteList := [] }
  dma := { pending := false, page := 0 }
  pad := { liveButtons := 0, snapshot := 0, strobe := false, index := 0 }
  irqInput := []
  cycles := 0
  frameOut := none

end Sys2Proof.Machine
end

