-- ==== Sys2Proof/Syntax.lean ====
section
/-! DEFINITION. The instruction set as syntax: mnemonics, addressing modes, operands, table rows, and the one inductive
of instructions, one constructor per row of spec/opcode_table.json (30_encoding.md R300, R301, R314). -/

namespace Sys2Proof

/-- The 65 mnemonics of the opcode table, `undef` standing for the 25 UNDEF rows (30_encoding.md R314, R315). -/
inductive Mnemonic where
  | lda | ldx | ldy | lax | sta | stx | sty | sax | tax | tay | txa | tya | tsx
  | txs | adc | sbc | and | ora | eor | bit | cmp | cpx | cpy | inc | dec | inx
  | iny | dex | dey | asl | lsr | rol | ror | slo | rla | sre | rra | dcp | isb
  | bcc | bcs | beq | bne | bmi | bpl | bvc | bvs | jmp | jsr | rts | rti | brk
  | pha | pla | php | plp | clc | sec | cli | sei | clv | cld | sed | nop | undef
  deriving DecidableEq, Repr

/-- The addressing modes of 30_encoding.md R300; `none` is the mode the table gives the UNDEF rows. -/
inductive Mode where
  | none | implied | accumulator | immediate | zeroPage | zeroPageX | zeroPageY | relative | indirectX | indirectY
  | absolute | absoluteX | absoluteY | indirect
  deriving DecidableEq, Repr

/-- An operand as the operand bytes give it (30_encoding.md R300, R313): the mode with its operand field. -/
inductive Operand where
  | none                  -- UNDEF: no operand byte is fetched
  | implied
  | accumulator
  | imm (v : Byte)        -- `#v`
  | zp (zp : Byte)        -- `zp`
  | zpX (zp : Byte)       -- `zp,X`
  | zpY (zp : Byte)       -- `zp,Y`
  | rel (off : Byte)      -- branch offset
  | indX (zp : Byte)      -- `(zp,X)`
  | indY (zp : Byte)      -- `(zp),Y`
  | abs (w : Word)        -- `w`
  | absX (w : Word)       -- `w,X`
  | absY (w : Word)       -- `w,Y`
  | ind (w : Word)        -- `(w)`, JMP only
  deriving DecidableEq, Repr

/-- The addressing mode of an operand. -/
def Operand.mode : Operand → Mode
  | .none => .none
  | .implied => .implied
  | .accumulator => .accumulator
  | .imm _ => .immediate
  | .zp _ => .zeroPage
  | .zpX _ => .zeroPageX
  | .zpY _ => .zeroPageY
  | .rel _ => .relative
  | .indX _ => .indirectX
  | .indY _ => .indirectY
  | .abs _ => .absolute
  | .absX _ => .absoluteX
  | .absY _ => .absoluteY
  | .ind _ => .indirect

/-- A row of the opcode table with its operand filled in: the opcode byte, the mnemonic, the operand. -/
structure Row where
  opcode : Byte
  mnemonic : Mnemonic
  operand : Operand
  deriving DecidableEq, Repr

/-- The instructions: one constructor per row of spec/opcode_table.json, in the order of the spec's
instruction files (40 to 44) and then of the opcode byte, carrying the operand field of the row's mode. A name is the mnemonic and the mode; a row that shares both with another row carries its opcode byte
(the unofficial NOPs, the second SBC immediate, the UNDEF rows). -/
inductive Instr where
  | ldaIndX (zp : Byte)           -- $A1 LDA (zp,X)
  | ldaZp (zp : Byte)             -- $A5 LDA zp
  | ldaImm (v : Byte)             -- $A9 LDA #v
  | ldaAbs (w : Word)             -- $AD LDA w
  | ldaIndY (zp : Byte)           -- $B1 LDA (zp),Y
  | ldaZpX (zp : Byte)            -- $B5 LDA zp,X
  | ldaAbsY (w : Word)            -- $B9 LDA w,Y
  | ldaAbsX (w : Word)            -- $BD LDA w,X
  | ldxImm (v : Byte)             -- $A2 LDX #v
  | ldxZp (zp : Byte)             -- $A6 LDX zp
  | ldxAbs (w : Word)             -- $AE LDX w
  | ldxZpY (zp : Byte)            -- $B6 LDX zp,Y
  | ldxAbsY (w : Word)            -- $BE LDX w,Y
  | ldyImm (v : Byte)             -- $A0 LDY #v
  | ldyZp (zp : Byte)             -- $A4 LDY zp
  | ldyAbs (w : Word)             -- $AC LDY w
  | ldyZpX (zp : Byte)            -- $B4 LDY zp,X
  | ldyAbsX (w : Word)            -- $BC LDY w,X
  | laxIndX (zp : Byte)           -- $A3 LAX (zp,X) (unofficial)
  | laxZp (zp : Byte)             -- $A7 LAX zp (unofficial)
  | laxAbs (w : Word)             -- $AF LAX w (unofficial)
  | laxIndY (zp : Byte)           -- $B3 LAX (zp),Y (unofficial)
  | laxZpY (zp : Byte)            -- $B7 LAX zp,Y (unofficial)
  | laxAbsY (w : Word)            -- $BF LAX w,Y (unofficial)
  | staIndX (zp : Byte)           -- $81 STA (zp,X)
  | staZp (zp : Byte)             -- $85 STA zp
  | staAbs (w : Word)             -- $8D STA w
  | staIndY (zp : Byte)           -- $91 STA (zp),Y
  | staZpX (zp : Byte)            -- $95 STA zp,X
  | staAbsY (w : Word)            -- $99 STA w,Y
  | staAbsX (w : Word)            -- $9D STA w,X
  | stxZp (zp : Byte)             -- $86 STX zp
  | stxAbs (w : Word)             -- $8E STX w
  | stxZpY (zp : Byte)            -- $96 STX zp,Y
  | styZp (zp : Byte)             -- $84 STY zp
  | styAbs (w : Word)             -- $8C STY w
  | styZpX (zp : Byte)            -- $94 STY zp,X
  | saxIndX (zp : Byte)           -- $83 SAX (zp,X) (unofficial)
  | saxZp (zp : Byte)             -- $87 SAX zp (unofficial)
  | saxAbs (w : Word)             -- $8F SAX w (unofficial)
  | saxZpY (zp : Byte)            -- $97 SAX zp,Y (unofficial)
  | tax                           -- $AA TAX
  | tay                           -- $A8 TAY
  | txa                           -- $8A TXA
  | tya                           -- $98 TYA
  | tsx                           -- $BA TSX
  | txs                           -- $9A TXS
  | adcIndX (zp : Byte)           -- $61 ADC (zp,X)
  | adcZp (zp : Byte)             -- $65 ADC zp
  | adcImm (v : Byte)             -- $69 ADC #v
  | adcAbs (w : Word)             -- $6D ADC w
  | adcIndY (zp : Byte)           -- $71 ADC (zp),Y
  | adcZpX (zp : Byte)            -- $75 ADC zp,X
  | adcAbsY (w : Word)            -- $79 ADC w,Y
  | adcAbsX (w : Word)            -- $7D ADC w,X
  | sbcIndX (zp : Byte)           -- $E1 SBC (zp,X)
  | sbcZp (zp : Byte)             -- $E5 SBC zp
  | sbcImm (v : Byte)             -- $E9 SBC #v
  | sbcImmEB (v : Byte)           -- $EB SBC #v (unofficial)
  | sbcAbs (w : Word)             -- $ED SBC w
  | sbcIndY (zp : Byte)           -- $F1 SBC (zp),Y
  | sbcZpX (zp : Byte)            -- $F5 SBC zp,X
  | sbcAbsY (w : Word)            -- $F9 SBC w,Y
  | sbcAbsX (w : Word)            -- $FD SBC w,X
  | andIndX (zp : Byte)           -- $21 AND (zp,X)
  | andZp (zp : Byte)             -- $25 AND zp
  | andImm (v : Byte)             -- $29 AND #v
  | andAbs (w : Word)             -- $2D AND w
  | andIndY (zp : Byte)           -- $31 AND (zp),Y
  | andZpX (zp : Byte)            -- $35 AND zp,X
  | andAbsY (w : Word)            -- $39 AND w,Y
  | andAbsX (w : Word)            -- $3D AND w,X
  | oraIndX (zp : Byte)           -- $01 ORA (zp,X)
  | oraZp (zp : Byte)             -- $05 ORA zp
  | oraImm (v : Byte)             -- $09 ORA #v
  | oraAbs (w : Word)             -- $0D ORA w
  | oraIndY (zp : Byte)           -- $11 ORA (zp),Y
  | oraZpX (zp : Byte)            -- $15 ORA zp,X
  | oraAbsY (w : Word)            -- $19 ORA w,Y
  | oraAbsX (w : Word)            -- $1D ORA w,X
  | eorIndX (zp : Byte)           -- $41 EOR (zp,X)
  | eorZp (zp : Byte)             -- $45 EOR zp
  | eorImm (v : Byte)             -- $49 EOR #v
  | eorAbs (w : Word)             -- $4D EOR w
  | eorIndY (zp : Byte)           -- $51 EOR (zp),Y
  | eorZpX (zp : Byte)            -- $55 EOR zp,X
  | eorAbsY (w : Word)            -- $59 EOR w,Y
  | eorAbsX (w : Word)            -- $5D EOR w,X
  | bitZp (zp : Byte)             -- $24 BIT zp
  | bitAbs (w : Word)             -- $2C BIT w
  | cmpIndX (zp : Byte)           -- $C1 CMP (zp,X)
  | cmpZp (zp : Byte)             -- $C5 CMP zp
  | cmpImm (v : Byte)             -- $C9 CMP #v
  | cmpAbs (w : Word)             -- $CD CMP w
  | cmpIndY (zp : Byte)           -- $D1 CMP (zp),Y
  | cmpZpX (zp : Byte)            -- $D5 CMP zp,X
  | cmpAbsY (w : Word)            -- $D9 CMP w,Y
  | cmpAbsX (w : Word)            -- $DD CMP w,X
  | cpxImm (v : Byte)             -- $E0 CPX #v
  | cpxZp (zp : Byte)             -- $E4 CPX zp
  | cpxAbs (w : Word)             -- $EC CPX w
  | cpyImm (v : Byte)             -- $C0 CPY #v
  | cpyZp (zp : Byte)             -- $C4 CPY zp
  | cpyAbs (w : Word)             -- $CC CPY w
  | incZp (zp : Byte)             -- $E6 INC zp
  | incAbs (w : Word)             -- $EE INC w
  | incZpX (zp : Byte)            -- $F6 INC zp,X
  | incAbsX (w : Word)            -- $FE INC w,X
  | decZp (zp : Byte)             -- $C6 DEC zp
  | decAbs (w : Word)             -- $CE DEC w
  | decZpX (zp : Byte)            -- $D6 DEC zp,X
  | decAbsX (w : Word)            -- $DE DEC w,X
  | inx                           -- $E8 INX
  | iny                           -- $C8 INY
  | dex                           -- $CA DEX
  | dey                           -- $88 DEY
  | aslZp (zp : Byte)             -- $06 ASL zp
  | aslAcc                        -- $0A ASL A
  | aslAbs (w : Word)             -- $0E ASL w
  | aslZpX (zp : Byte)            -- $16 ASL zp,X
  | aslAbsX (w : Word)            -- $1E ASL w,X
  | lsrZp (zp : Byte)             -- $46 LSR zp
  | lsrAcc                        -- $4A LSR A
  | lsrAbs (w : Word)             -- $4E LSR w
  | lsrZpX (zp : Byte)            -- $56 LSR zp,X
  | lsrAbsX (w : Word)            -- $5E LSR w,X
  | rolZp (zp : Byte)             -- $26 ROL zp
  | rolAcc                        -- $2A ROL A
  | rolAbs (w : Word)             -- $2E ROL w
  | rolZpX (zp : Byte)            -- $36 ROL zp,X
  | rolAbsX (w : Word)            -- $3E ROL w,X
  | rorZp (zp : Byte)             -- $66 ROR zp
  | rorAcc                        -- $6A ROR A
  | rorAbs (w : Word)             -- $6E ROR w
  | rorZpX (zp : Byte)            -- $76 ROR zp,X
  | rorAbsX (w : Word)            -- $7E ROR w,X
  | sloIndX (zp : Byte)           -- $03 SLO (zp,X) (unofficial)
  | sloZp (zp : Byte)             -- $07 SLO zp (unofficial)
  | sloAbs (w : Word)             -- $0F SLO w (unofficial)
  | sloIndY (zp : Byte)           -- $13 SLO (zp),Y (unofficial)
  | sloZpX (zp : Byte)            -- $17 SLO zp,X (unofficial)
  | sloAbsY (w : Word)            -- $1B SLO w,Y (unofficial)
  | sloAbsX (w : Word)            -- $1F SLO w,X (unofficial)
  | rlaIndX (zp : Byte)           -- $23 RLA (zp,X) (unofficial)
  | rlaZp (zp : Byte)             -- $27 RLA zp (unofficial)
  | rlaAbs (w : Word)             -- $2F RLA w (unofficial)
  | rlaIndY (zp : Byte)           -- $33 RLA (zp),Y (unofficial)
  | rlaZpX (zp : Byte)            -- $37 RLA zp,X (unofficial)
  | rlaAbsY (w : Word)            -- $3B RLA w,Y (unofficial)
  | rlaAbsX (w : Word)            -- $3F RLA w,X (unofficial)
  | sreIndX (zp : Byte)           -- $43 SRE (zp,X) (unofficial)
  | sreZp (zp : Byte)             -- $47 SRE zp (unofficial)
  | sreAbs (w : Word)             -- $4F SRE w (unofficial)
  | sreIndY (zp : Byte)           -- $53 SRE (zp),Y (unofficial)
  | sreZpX (zp : Byte)            -- $57 SRE zp,X (unofficial)
  | sreAbsY (w : Word)            -- $5B SRE w,Y (unofficial)
  | sreAbsX (w : Word)            -- $5F SRE w,X (unofficial)
  | rraIndX (zp : Byte)           -- $63 RRA (zp,X) (unofficial)
  | rraZp (zp : Byte)             -- $67 RRA zp (unofficial)
  | rraAbs (w : Word)             -- $6F RRA w (unofficial)
  | rraIndY (zp : Byte)           -- $73 RRA (zp),Y (unofficial)
  | rraZpX (zp : Byte)            -- $77 RRA zp,X (unofficial)
  | rraAbsY (w : Word)            -- $7B RRA w,Y (unofficial)
  | rraAbsX (w : Word)            -- $7F RRA w,X (unofficial)
  | dcpIndX (zp : Byte)           -- $C3 DCP (zp,X) (unofficial)
  | dcpZp (zp : Byte)             -- $C7 DCP zp (unofficial)
  | dcpAbs (w : Word)             -- $CF DCP w (unofficial)
  | dcpIndY (zp : Byte)           -- $D3 DCP (zp),Y (unofficial)
  | dcpZpX (zp : Byte)            -- $D7 DCP zp,X (unofficial)
  | dcpAbsY (w : Word)            -- $DB DCP w,Y (unofficial)
  | dcpAbsX (w : Word)            -- $DF DCP w,X (unofficial)
  | isbIndX (zp : Byte)           -- $E3 ISB (zp,X) (unofficial)
  | isbZp (zp : Byte)             -- $E7 ISB zp (unofficial)
  | isbAbs (w : Word)             -- $EF ISB w (unofficial)
  | isbIndY (zp : Byte)           -- $F3 ISB (zp),Y (unofficial)
  | isbZpX (zp : Byte)            -- $F7 ISB zp,X (unofficial)
  | isbAbsY (w : Word)            -- $FB ISB w,Y (unofficial)
  | isbAbsX (w : Word)            -- $FF ISB w,X (unofficial)
  | bcc (off : Byte)              -- $90 BCC off
  | bcs (off : Byte)              -- $B0 BCS off
  | beq (off : Byte)              -- $F0 BEQ off
  | bne (off : Byte)              -- $D0 BNE off
  | bmi (off : Byte)              -- $30 BMI off
  | bpl (off : Byte)              -- $10 BPL off
  | bvc (off : Byte)              -- $50 BVC off
  | bvs (off : Byte)              -- $70 BVS off
  | jmpAbs (w : Word)             -- $4C JMP w
  | jmpInd (w : Word)             -- $6C JMP (w)
  | jsr (w : Word)                -- $20 JSR w
  | rts                           -- $60 RTS
  | rti                           -- $40 RTI
  | brk                           -- $00 BRK
  | pha                           -- $48 PHA
  | pla                           -- $68 PLA
  | php                           -- $08 PHP
  | plp                           -- $28 PLP
  | clc                           -- $18 CLC
  | sec                           -- $38 SEC
  | cli                           -- $58 CLI
  | sei                           -- $78 SEI
  | clv                           -- $B8 CLV
  | cld                           -- $D8 CLD
  | sed                           -- $F8 SED
  | nopZp04 (zp : Byte)           -- $04 NOP zp (unofficial)
  | nopAbs0C (w : Word)           -- $0C NOP w (unofficial)
  | nopZpX14 (zp : Byte)          -- $14 NOP zp,X (unofficial)
  | nop1A                         -- $1A NOP (unofficial)
  | nopAbsX1C (w : Word)          -- $1C NOP w,X (unofficial)
  | nopZpX34 (zp : Byte)          -- $34 NOP zp,X (unofficial)
  | nop3A                         -- $3A NOP (unofficial)
  | nopAbsX3C (w : Word)          -- $3C NOP w,X (unofficial)
  | nopZp44 (zp : Byte)           -- $44 NOP zp (unofficial)
  | nopZpX54 (zp : Byte)          -- $54 NOP zp,X (unofficial)
  | nop5A                         -- $5A NOP (unofficial)
  | nopAbsX5C (w : Word)          -- $5C NOP w,X (unofficial)
  | nopZp64 (zp : Byte)           -- $64 NOP zp (unofficial)
  | nopZpX74 (zp : Byte)          -- $74 NOP zp,X (unofficial)
  | nop7A                         -- $7A NOP (unofficial)
  | nopAbsX7C (w : Word)          -- $7C NOP w,X (unofficial)
  | nopImm80 (v : Byte)           -- $80 NOP #v (unofficial)
  | nopImm82 (v : Byte)           -- $82 NOP #v (unofficial)
  | nopImm89 (v : Byte)           -- $89 NOP #v (unofficial)
  | nopImmC2 (v : Byte)           -- $C2 NOP #v (unofficial)
  | nopZpXD4 (zp : Byte)          -- $D4 NOP zp,X (unofficial)
  | nopDA                         -- $DA NOP (unofficial)
  | nopAbsXDC (w : Word)          -- $DC NOP w,X (unofficial)
  | nopImmE2 (v : Byte)           -- $E2 NOP #v (unofficial)
  | nop                           -- $EA NOP
  | nopZpXF4 (zp : Byte)          -- $F4 NOP zp,X (unofficial)
  | nopFA                         -- $FA NOP (unofficial)
  | nopAbsXFC (w : Word)          -- $FC NOP w,X (unofficial)
  | undef02                       -- $02 UNDEF
  | undef0B                       -- $0B UNDEF
  | undef12                       -- $12 UNDEF
  | undef22                       -- $22 UNDEF
  | undef2B                       -- $2B UNDEF
  | undef32                       -- $32 UNDEF
  | undef42                       -- $42 UNDEF
  | undef4B                       -- $4B UNDEF
  | undef52                       -- $52 UNDEF
  | undef62                       -- $62 UNDEF
  | undef6B                       -- $6B UNDEF
  | undef72                       -- $72 UNDEF
  | undef8B                       -- $8B UNDEF
  | undef92                       -- $92 UNDEF
  | undef93                       -- $93 UNDEF
  | undef9B                       -- $9B UNDEF
  | undef9C                       -- $9C UNDEF
  | undef9E                       -- $9E UNDEF
  | undef9F                       -- $9F UNDEF
  | undefAB                       -- $AB UNDEF
  | undefB2                       -- $B2 UNDEF
  | undefBB                       -- $BB UNDEF
  | undefCB                       -- $CB UNDEF
  | undefD2                       -- $D2 UNDEF
  | undefF2                       -- $F2 UNDEF
  deriving DecidableEq, Repr

end Sys2Proof
end

