-- ==== Sys2Proof/Machine/Cycles.lean ====
section
/-! DEFINITION. The cycle cost of an instruction (70_reset_and_hazards.md R720 to R723). -/

namespace Sys2Proof.Machine

/-- READ_CLASS: the mnemonics that pay a page-cross cycle under the strict policy (R722). -/
def readClass : Mnemonic → Bool
  | .lda | .ldx | .ldy | .lax | .adc | .sbc | .and | .ora | .eor | .cmp | .nop => true
  | _ => false

/-- Charged(entry, extra, hasBranched): the page-cross cycle under PAGE_CROSS_POLICY (R722). -/
def charged (policy : PageCrossPolicy) (mn : Mnemonic) (mode : Mode) (extra hasBranched : Bool) : Nat :=
  if extra then
    match policy with
    | .coarse => 1
    | .strict => if mode = .relative then hasBranched.toNat else (readClass mn).toNat
  else 0

/-- The count a step returns: base + charged page cross + branch taken (60_exceptions.md R602 part 5). -/
def cost (cfg : Config) (op : Byte) (mn : Mnemonic) (mode : Mode) (extra hasBranched : Bool) : Nat :=
  cfg.baseCyclesOf op + charged cfg.pageCrossPolicy mn mode extra hasBranched + hasBranched.toNat

/-- The state with the instruction's cost as the iteration's cycle count. -/
def finish (r : Row) (extra hasBranched : Bool) (s : State) : State :=
  { s with cycles := cost s.cfg r.opcode r.mnemonic r.operand.mode extra hasBranched }

end Sys2Proof.Machine
end

