-- ==== Sys2Proof/Machine/Controller.lean ====
section
/-! DEFINITION. The controller port at $4016 (60_exceptions.md R650 to R652). -/

namespace Sys2Proof.Machine

/-- ControllerWrite(v): bit 0 = 1 raises the strobe; bit 0 = 0 after a 1 captures the live buttons, resets the index and
clears the strobe; bit 0 = 0 without a strobe does nothing (R650). -/
def Controller.write (v : Byte) (c : Controller) : Controller :=
  if v.getLsbD 0 then { c with strobe := true }
  else if c.strobe then { c with snapshot := c.liveButtons, index := 0, strobe := false }
  else c

/-- ControllerRead(): the next bit of the snapshot in bit 0; after eight reads, 1 (R651). -/
def Controller.read (c : Controller) : Byte × Controller :=
  if c.index < 8 then ((BitVec.ofBool (c.snapshot.getLsbD c.index)).setWidth 8, { c with index := c.index + 1 })
  else (1, c)

/-- latch_buttons(state): the host's snapshot becomes the live buttons (R652). -/
def Controller.latch (buttons : Byte) (c : Controller) : Controller := { c with liveButtons := buttons }

end Sys2Proof.Machine
end

