-- ==== Sys2Proof/Decode.lean ====
section
/-! DEFINITION. Decoding and encoding (30_encoding.md R300, R301, R307, R313, R314): the opcode map, a decoder total on any
bytes, the encoder written from the rows, and `decodeTableWord`, which reads an opcode-table word. -/

namespace Sys2Proof

/-- The 16-bit value of a high and a low byte, the spec's h, l concatenation (00_scope.md R7). -/
def joinBytes (hi lo : Byte) : Word := hi ++ lo

/-- Bits 7:0 of a 16-bit value. -/
def loByte (w : Word) : Byte := w.extractLsb' 0 8

/-- Bits 15:8 of a 16-bit value. -/
def hiByte (w : Word) : Byte := w.extractLsb' 8 8

/-- Zero extension of a byte to 16 bits (00_scope.md R8, zext_16). -/
def zext16 (b : Byte) : Word := b.setWidth 16

/-- Sign extension of a byte to 16 bits (00_scope.md R8, sext_8, taken modulo $10000). -/
def sext16 (b : Byte) : Word := b.signExtend 16

/-! ### The opcode map -/

/-- What an entry of the opcode map does with the operand bytes that follow the opcode (30_encoding.md R300): it takes
none, one byte, or two bytes read as a little-endian word. -/
inductive Format where
  | noOperand (i : Instr)
  | byteOperand (f : Byte → Instr)
  | wordOperand (f : Word → Instr)

/-- Row 0x of the opcode map, columns x0 to xF (30_encoding.md R314). -/
def opcodeRow0 : List Format :=
  [.noOperand .brk, .byteOperand .oraIndX, .noOperand .undef02, .byteOperand .sloIndX,
   .byteOperand .nopZp04, .byteOperand .oraZp, .byteOperand .aslZp, .byteOperand .sloZp,
   .noOperand .php, .byteOperand .oraImm, .noOperand .aslAcc, .noOperand .undef0B,
   .wordOperand .nopAbs0C, .wordOperand .oraAbs, .wordOperand .aslAbs, .wordOperand .sloAbs]

/-- Row 1x of the opcode map, columns x0 to xF (30_encoding.md R314). -/
def opcodeRow1 : List Format :=
  [.byteOperand .bpl, .byteOperand .oraIndY, .noOperand .undef12, .byteOperand .sloIndY,
   .byteOperand .nopZpX14, .byteOperand .oraZpX, .byteOperand .aslZpX, .byteOperand .sloZpX,
   .noOperand .clc, .wordOperand .oraAbsY, .noOperand .nop1A, .wordOperand .sloAbsY,
   .wordOperand .nopAbsX1C, .wordOperand .oraAbsX, .wordOperand .aslAbsX, .wordOperand .sloAbsX]

/-- Row 2x of the opcode map, columns x0 to xF (30_encoding.md R314). -/
def opcodeRow2 : List Format :=
  [.wordOperand .jsr, .byteOperand .andIndX, .noOperand .undef22, .byteOperand .rlaIndX,
   .byteOperand .bitZp, .byteOperand .andZp, .byteOperand .rolZp, .byteOperand .rlaZp,
   .noOperand .plp, .byteOperand .andImm, .noOperand .rolAcc, .noOperand .undef2B,
   .wordOperand .bitAbs, .wordOperand .andAbs, .wordOperand .rolAbs, .wordOperand .rlaAbs]

/-- Row 3x of the opcode map, columns x0 to xF (30_encoding.md R314). -/
def opcodeRow3 : List Format :=
  [.byteOperand .bmi, .byteOperand .andIndY, .noOperand .undef32, .byteOperand .rlaIndY,
   .byteOperand .nopZpX34, .byteOperand .andZpX, .byteOperand .rolZpX, .byteOperand .rlaZpX,
   .noOperand .sec, .wordOperand .andAbsY, .noOperand .nop3A, .wordOperand .rlaAbsY,
   .wordOperand .nopAbsX3C, .wordOperand .andAbsX, .wordOperand .rolAbsX, .wordOperand .rlaAbsX]

/-- Row 4x of the opcode map, columns x0 to xF (30_encoding.md R314). -/
def opcodeRow4 : List Format :=
  [.noOperand .rti, .byteOperand .eorIndX, .noOperand .undef42, .byteOperand .sreIndX,
   .byteOperand .nopZp44, .byteOperand .eorZp, .byteOperand .lsrZp, .byteOperand .sreZp,
   .noOperand .pha, .byteOperand .eorImm, .noOperand .lsrAcc, .noOperand .undef4B,
   .wordOperand .jmpAbs, .wordOperand .eorAbs, .wordOperand .lsrAbs, .wordOperand .sreAbs]

/-- Row 5x of the opcode map, columns x0 to xF (30_encoding.md R314). -/
def opcodeRow5 : List Format :=
  [.byteOperand .bvc, .byteOperand .eorIndY, .noOperand .undef52, .byteOperand .sreIndY,
   .byteOperand .nopZpX54, .byteOperand .eorZpX, .byteOperand .lsrZpX, .byteOperand .sreZpX,
   .noOperand .cli, .wordOperand .eorAbsY, .noOperand .nop5A, .wordOperand .sreAbsY,
   .wordOperand .nopAbsX5C, .wordOperand .eorAbsX, .wordOperand .lsrAbsX, .wordOperand .sreAbsX]

/-- Row 6x of the opcode map, columns x0 to xF (30_encoding.md R314). -/
def opcodeRow6 : List Format :=
  [.noOperand .rts, .byteOperand .adcIndX, .noOperand .undef62, .byteOperand .rraIndX,
   .byteOperand .nopZp64, .byteOperand .adcZp, .byteOperand .rorZp, .byteOperand .rraZp,
   .noOperand .pla, .byteOperand .adcImm, .noOperand .rorAcc, .noOperand .undef6B,
   .wordOperand .jmpInd, .wordOperand .adcAbs, .wordOperand .rorAbs, .wordOperand .rraAbs]

/-- Row 7x of the opcode map, columns x0 to xF (30_encoding.md R314). -/
def opcodeRow7 : List Format :=
  [.byteOperand .bvs, .byteOperand .adcIndY, .noOperand .undef72, .byteOperand .rraIndY,
   .byteOperand .nopZpX74, .byteOperand .adcZpX, .byteOperand .rorZpX, .byteOperand .rraZpX,
   .noOperand .sei, .wordOperand .adcAbsY, .noOperand .nop7A, .wordOperand .rraAbsY,
   .wordOperand .nopAbsX7C, .wordOperand .adcAbsX, .wordOperand .rorAbsX, .wordOperand .rraAbsX]

/-- Row 8x of the opcode map, columns x0 to xF (30_encoding.md R314). -/
def opcodeRow8 : List Format :=
  [.byteOperand .nopImm80, .byteOperand .staIndX, .byteOperand .nopImm82, .byteOperand .saxIndX,
   .byteOperand .styZp, .byteOperand .staZp, .byteOperand .stxZp, .byteOperand .saxZp,
   .noOperand .dey, .byteOperand .nopImm89, .noOperand .txa, .noOperand .undef8B,
   .wordOperand .styAbs, .wordOperand .staAbs, .wordOperand .stxAbs, .wordOperand .saxAbs]

/-- Row 9x of the opcode map, columns x0 to xF (30_encoding.md R314). -/
def opcodeRow9 : List Format :=
  [.byteOperand .bcc, .byteOperand .staIndY, .noOperand .undef92, .noOperand .undef93,
   .byteOperand .styZpX, .byteOperand .staZpX, .byteOperand .stxZpY, .byteOperand .saxZpY,
   .noOperand .tya, .wordOperand .staAbsY, .noOperand .txs, .noOperand .undef9B,
   .noOperand .undef9C, .wordOperand .staAbsX, .noOperand .undef9E, .noOperand .undef9F]

/-- Row Ax of the opcode map, columns x0 to xF (30_encoding.md R314). -/
def opcodeRowA : List Format :=
  [.byteOperand .ldyImm, .byteOperand .ldaIndX, .byteOperand .ldxImm, .byteOperand .laxIndX,
   .byteOperand .ldyZp, .byteOperand .ldaZp, .byteOperand .ldxZp, .byteOperand .laxZp,
   .noOperand .tay, .byteOperand .ldaImm, .noOperand .tax, .noOperand .undefAB,
   .wordOperand .ldyAbs, .wordOperand .ldaAbs, .wordOperand .ldxAbs, .wordOperand .laxAbs]

/-- Row Bx of the opcode map, columns x0 to xF (30_encoding.md R314). -/
def opcodeRowB : List Format :=
  [.byteOperand .bcs, .byteOperand .ldaIndY, .noOperand .undefB2, .byteOperand .laxIndY,
   .byteOperand .ldyZpX, .byteOperand .ldaZpX, .byteOperand .ldxZpY, .byteOperand .laxZpY,
   .noOperand .clv, .wordOperand .ldaAbsY, .noOperand .tsx, .noOperand .undefBB,
   .wordOperand .ldyAbsX, .wordOperand .ldaAbsX, .wordOperand .ldxAbsY, .wordOperand .laxAbsY]

/-- Row Cx of the opcode map, columns x0 to xF (30_encoding.md R314). -/
def opcodeRowC : List Format :=
  [.byteOperand .cpyImm, .byteOperand .cmpIndX, .byteOperand .nopImmC2, .byteOperand .dcpIndX,
   .byteOperand .cpyZp, .byteOperand .cmpZp, .byteOperand .decZp, .byteOperand .dcpZp,
   .noOperand .iny, .byteOperand .cmpImm, .noOperand .dex, .noOperand .undefCB,
   .wordOperand .cpyAbs, .wordOperand .cmpAbs, .wordOperand .decAbs, .wordOperand .dcpAbs]

/-- Row Dx of the opcode map, columns x0 to xF (30_encoding.md R314). -/
def opcodeRowD : List Format :=
  [.byteOperand .bne, .byteOperand .cmpIndY, .noOperand .undefD2, .byteOperand .dcpIndY,
   .byteOperand .nopZpXD4, .byteOperand .cmpZpX, .byteOperand .decZpX, .byteOperand .dcpZpX,
   .noOperand .cld, .wordOperand .cmpAbsY, .noOperand .nopDA, .wordOperand .dcpAbsY,
   .wordOperand .nopAbsXDC, .wordOperand .cmpAbsX, .wordOperand .decAbsX, .wordOperand .dcpAbsX]

/-- Row Ex of the opcode map, columns x0 to xF (30_encoding.md R314). -/
def opcodeRowE : List Format :=
  [.byteOperand .cpxImm, .byteOperand .sbcIndX, .byteOperand .nopImmE2, .byteOperand .isbIndX,
   .byteOperand .cpxZp, .byteOperand .sbcZp, .byteOperand .incZp, .byteOperand .isbZp,
   .noOperand .inx, .byteOperand .sbcImm, .noOperand .nop, .byteOperand .sbcImmEB,
   .wordOperand .cpxAbs, .wordOperand .sbcAbs, .wordOperand .incAbs, .wordOperand .isbAbs]

/-- Row Fx of the opcode map, columns x0 to xF (30_encoding.md R314). -/
def opcodeRowF : List Format :=
  [.byteOperand .beq, .byteOperand .sbcIndY, .noOperand .undefF2, .byteOperand .isbIndY,
   .byteOperand .nopZpXF4, .byteOperand .sbcZpX, .byteOperand .incZpX, .byteOperand .isbZpX,
   .noOperand .sed, .wordOperand .sbcAbsY, .noOperand .nopFA, .wordOperand .isbAbsY,
   .wordOperand .nopAbsXFC, .wordOperand .sbcAbsX, .wordOperand .incAbsX, .wordOperand .isbAbsX]

/-- The 256-entry opcode map: row = high nibble, column = low nibble of the opcode byte (30_encoding.md R301, R314). -/
def opcodeMap : List (List Format) :=
  [opcodeRow0, opcodeRow1, opcodeRow2, opcodeRow3, opcodeRow4, opcodeRow5, opcodeRow6, opcodeRow7,
   opcodeRow8, opcodeRow9, opcodeRowA, opcodeRowB, opcodeRowC, opcodeRowD, opcodeRowE, opcodeRowF]

/-- The entry of an opcode byte. The map has an entry for every byte, so the two defaults are never taken. -/
def formatOf (op : Byte) : Format :=
  (opcodeMap.getD (op.toNat / 16) []).getD (op.toNat % 16) (.noOperand .undef02)

/-! ### The decoder -/

/-- Why a byte list is not an instruction. Every opcode byte has an entry in the map (30_encoding.md R301, R315: the UNDEF
bytes are entries too), so the only reason is that bytes are missing. -/
inductive DecodeReject where
  | noOpcode                    -- the list is empty
  | missingOperand (op : Byte)  -- the list ends before the last operand byte of `op`
  deriving DecidableEq, Repr

/-- The first instruction of a byte list and the bytes after it, or the reason there is none: opcode first, then the
operand bytes, a word's low byte before its high byte (30_encoding.md R300, R307). -/
def decode : List Byte → Except DecodeReject (Instr × List Byte)
  | [] => .error .noOpcode
  | op :: rest =>
    match formatOf op with
    | .noOperand i => .ok (i, rest)
    | .byteOperand f =>
      match rest with
      | b :: rest' => .ok (f b, rest')
      | [] => .error (.missingOperand op)
    | .wordOperand f =>
      match rest with
      | lo :: hi :: rest' => .ok (f (joinBytes hi lo), rest')
      | _ => .error (.missingOperand op)

/-! ### The encoder -/

/-- The table row of an instruction: its opcode byte, mnemonic and operand (spec/opcode_table.json; the encoding tables of
files 40 to 44). -/
def Instr.row : Instr → Row
  | .ldaIndX zp => ⟨0xA1, .lda, .indX zp⟩
  | .ldaZp zp => ⟨0xA5, .lda, .zp zp⟩
  | .ldaImm v => ⟨0xA9, .lda, .imm v⟩
  | .ldaAbs w => ⟨0xAD, .lda, .abs w⟩
  | .ldaIndY zp => ⟨0xB1, .lda, .indY zp⟩
  | .ldaZpX zp => ⟨0xB5, .lda, .zpX zp⟩
  | .ldaAbsY w => ⟨0xB9, .lda, .absY w⟩
  | .ldaAbsX w => ⟨0xBD, .lda, .absX w⟩
  | .ldxImm v => ⟨0xA2, .ldx, .imm v⟩
  | .ldxZp zp => ⟨0xA6, .ldx, .zp zp⟩
  | .ldxAbs w => ⟨0xAE, .ldx, .abs w⟩
  | .ldxZpY zp => ⟨0xB6, .ldx, .zpY zp⟩
  | .ldxAbsY w => ⟨0xBE, .ldx, .absY w⟩
  | .ldyImm v => ⟨0xA0, .ldy, .imm v⟩
  | .ldyZp zp => ⟨0xA4, .ldy, .zp zp⟩
  | .ldyAbs w => ⟨0xAC, .ldy, .abs w⟩
  | .ldyZpX zp => ⟨0xB4, .ldy, .zpX zp⟩
  | .ldyAbsX w => ⟨0xBC, .ldy, .absX w⟩
  | .laxIndX zp => ⟨0xA3, .lax, .indX zp⟩
  | .laxZp zp => ⟨0xA7, .lax, .zp zp⟩
  | .laxAbs w => ⟨0xAF, .lax, .abs w⟩
  | .laxIndY zp => ⟨0xB3, .lax, .indY zp⟩
  | .laxZpY zp => ⟨0xB7, .lax, .zpY zp⟩
  | .laxAbsY w => ⟨0xBF, .lax, .absY w⟩
  | .staIndX zp => ⟨0x81, .sta, .indX zp⟩
  | .staZp zp => ⟨0x85, .sta, .zp zp⟩
  | .staAbs w => ⟨0x8D, .sta, .abs w⟩
  | .staIndY zp => ⟨0x91, .sta, .indY zp⟩
  | .staZpX zp => ⟨0x95, .sta, .zpX zp⟩
  | .staAbsY w => ⟨0x99, .sta, .absY w⟩
  | .staAbsX w => ⟨0x9D, .sta, .absX w⟩
  | .stxZp zp => ⟨0x86, .stx, .zp zp⟩
  | .stxAbs w => ⟨0x8E, .stx, .abs w⟩
  | .stxZpY zp => ⟨0x96, .stx, .zpY zp⟩
  | .styZp zp => ⟨0x84, .sty, .zp zp⟩
  | .styAbs w => ⟨0x8C, .sty, .abs w⟩
  | .styZpX zp => ⟨0x94, .sty, .zpX zp⟩
  | .saxIndX zp => ⟨0x83, .sax, .indX zp⟩
  | .saxZp zp => ⟨0x87, .sax, .zp zp⟩
  | .saxAbs w => ⟨0x8F, .sax, .abs w⟩
  | .saxZpY zp => ⟨0x97, .sax, .zpY zp⟩
  | .tax => ⟨0xAA, .tax, .implied⟩
  | .tay => ⟨0xA8, .tay, .implied⟩
  | .txa => ⟨0x8A, .txa, .implied⟩
  | .tya => ⟨0x98, .tya, .implied⟩
  | .tsx => ⟨0xBA, .tsx, .implied⟩
  | .txs => ⟨0x9A, .txs, .implied⟩
  | .adcIndX zp => ⟨0x61, .adc, .indX zp⟩
  | .adcZp zp => ⟨0x65, .adc, .zp zp⟩
  | .adcImm v => ⟨0x69, .adc, .imm v⟩
  | .adcAbs w => ⟨0x6D, .adc, .abs w⟩
  | .adcIndY zp => ⟨0x71, .adc, .indY zp⟩
  | .adcZpX zp => ⟨0x75, .adc, .zpX zp⟩
  | .adcAbsY w => ⟨0x79, .adc, .absY w⟩
  | .adcAbsX w => ⟨0x7D, .adc, .absX w⟩
  | .sbcIndX zp => ⟨0xE1, .sbc, .indX zp⟩
  | .sbcZp zp => ⟨0xE5, .sbc, .zp zp⟩
  | .sbcImm v => ⟨0xE9, .sbc, .imm v⟩
  | .sbcImmEB v => ⟨0xEB, .sbc, .imm v⟩
  | .sbcAbs w => ⟨0xED, .sbc, .abs w⟩
  | .sbcIndY zp => ⟨0xF1, .sbc, .indY zp⟩
  | .sbcZpX zp => ⟨0xF5, .sbc, .zpX zp⟩
  | .sbcAbsY w => ⟨0xF9, .sbc, .absY w⟩
  | .sbcAbsX w => ⟨0xFD, .sbc, .absX w⟩
  | .andIndX zp => ⟨0x21, .and, .indX zp⟩
  | .andZp zp => ⟨0x25, .and, .zp zp⟩
  | .andImm v => ⟨0x29, .and, .imm v⟩
  | .andAbs w => ⟨0x2D, .and, .abs w⟩
  | .andIndY zp => ⟨0x31, .and, .indY zp⟩
  | .andZpX zp => ⟨0x35, .and, .zpX zp⟩
  | .andAbsY w => ⟨0x39, .and, .absY w⟩
  | .andAbsX w => ⟨0x3D, .and, .absX w⟩
  | .oraIndX zp => ⟨0x01, .ora, .indX zp⟩
  | .oraZp zp => ⟨0x05, .ora, .zp zp⟩
  | .oraImm v => ⟨0x09, .ora, .imm v⟩
  | .oraAbs w => ⟨0x0D, .ora, .abs w⟩
  | .oraIndY zp => ⟨0x11, .ora, .indY zp⟩
  | .oraZpX zp => ⟨0x15, .ora, .zpX zp⟩
  | .oraAbsY w => ⟨0x19, .ora, .absY w⟩
  | .oraAbsX w => ⟨0x1D, .ora, .absX w⟩
  | .eorIndX zp => ⟨0x41, .eor, .indX zp⟩
  | .eorZp zp => ⟨0x45, .eor, .zp zp⟩
  | .eorImm v => ⟨0x49, .eor, .imm v⟩
  | .eorAbs w => ⟨0x4D, .eor, .abs w⟩
  | .eorIndY zp => ⟨0x51, .eor, .indY zp⟩
  | .eorZpX zp => ⟨0x55, .eor, .zpX zp⟩
  | .eorAbsY w => ⟨0x59, .eor, .absY w⟩
  | .eorAbsX w => ⟨0x5D, .eor, .absX w⟩
  | .bitZp zp => ⟨0x24, .bit, .zp zp⟩
  | .bitAbs w => ⟨0x2C, .bit, .abs w⟩
  | .cmpIndX zp => ⟨0xC1, .cmp, .indX zp⟩
  | .cmpZp zp => ⟨0xC5, .cmp, .zp zp⟩
  | .cmpImm v => ⟨0xC9, .cmp, .imm v⟩
  | .cmpAbs w => ⟨0xCD, .cmp, .abs w⟩
  | .cmpIndY zp => ⟨0xD1, .cmp, .indY zp⟩
  | .cmpZpX zp => ⟨0xD5, .cmp, .zpX zp⟩
  | .cmpAbsY w => ⟨0xD9, .cmp, .absY w⟩
  | .cmpAbsX w => ⟨0xDD, .cmp, .absX w⟩
  | .cpxImm v => ⟨0xE0, .cpx, .imm v⟩
  | .cpxZp zp => ⟨0xE4, .cpx, .zp zp⟩
  | .cpxAbs w => ⟨0xEC, .cpx, .abs w⟩
  | .cpyImm v => ⟨0xC0, .cpy, .imm v⟩
  | .cpyZp zp => ⟨0xC4, .cpy, .zp zp⟩
  | .cpyAbs w => ⟨0xCC, .cpy, .abs w⟩
  | .incZp zp => ⟨0xE6, .inc, .zp zp⟩
  | .incAbs w => ⟨0xEE, .inc, .abs w⟩
  | .incZpX zp => ⟨0xF6, .inc, .zpX zp⟩
  | .incAbsX w => ⟨0xFE, .inc, .absX w⟩
  | .decZp zp => ⟨0xC6, .dec, .zp zp⟩
  | .decAbs w => ⟨0xCE, .dec, .abs w⟩
  | .decZpX zp => ⟨0xD6, .dec, .zpX zp⟩
  | .decAbsX w => ⟨0xDE, .dec, .absX w⟩
  | .inx => ⟨0xE8, .inx, .implied⟩
  | .iny => ⟨0xC8, .iny, .implied⟩
  | .dex => ⟨0xCA, .dex, .implied⟩
  | .dey => ⟨0x88, .dey, .implied⟩
  | .aslZp zp => ⟨0x06, .asl, .zp zp⟩
  | .aslAcc => ⟨0x0A, .asl, .accumulator⟩
  | .aslAbs w => ⟨0x0E, .asl, .abs w⟩
  | .aslZpX zp => ⟨0x16, .asl, .zpX zp⟩
  | .aslAbsX w => ⟨0x1E, .asl, .absX w⟩
  | .lsrZp zp => ⟨0x46, .lsr, .zp zp⟩
  | .lsrAcc => ⟨0x4A, .lsr, .accumulator⟩
  | .lsrAbs w => ⟨0x4E, .lsr, .abs w⟩
  | .lsrZpX zp => ⟨0x56, .lsr, .zpX zp⟩
  | .lsrAbsX w => ⟨0x5E, .lsr, .absX w⟩
  | .rolZp zp => ⟨0x26, .rol, .zp zp⟩
  | .rolAcc => ⟨0x2A, .rol, .accumulator⟩
  | .rolAbs w => ⟨0x2E, .rol, .abs w⟩
  | .rolZpX zp => ⟨0x36, .rol, .zpX zp⟩
  | .rolAbsX w => ⟨0x3E, .rol, .absX w⟩
  | .rorZp zp => ⟨0x66, .ror, .zp zp⟩
  | .rorAcc => ⟨0x6A, .ror, .accumulator⟩
  | .rorAbs w => ⟨0x6E, .ror, .abs w⟩
  | .rorZpX zp => ⟨0x76, .ror, .zpX zp⟩
  | .rorAbsX w => ⟨0x7E, .ror, .absX w⟩
  | .sloIndX zp => ⟨0x03, .slo, .indX zp⟩
  | .sloZp zp => ⟨0x07, .slo, .zp zp⟩
  | .sloAbs w => ⟨0x0F, .slo, .abs w⟩
  | .sloIndY zp => ⟨0x13, .slo, .indY zp⟩
  | .sloZpX zp => ⟨0x17, .slo, .zpX zp⟩
  | .sloAbsY w => ⟨0x1B, .slo, .absY w⟩
  | .sloAbsX w => ⟨0x1F, .slo, .absX w⟩
  | .rlaIndX zp => ⟨0x23, .rla, .indX zp⟩
  | .rlaZp zp => ⟨0x27, .rla, .zp zp⟩
  | .rlaAbs w => ⟨0x2F, .rla, .abs w⟩
  | .rlaIndY zp => ⟨0x33, .rla, .indY zp⟩
  | .rlaZpX zp => ⟨0x37, .rla, .zpX zp⟩
  | .rlaAbsY w => ⟨0x3B, .rla, .absY w⟩
  | .rlaAbsX w => ⟨0x3F, .rla, .absX w⟩
  | .sreIndX zp => ⟨0x43, .sre, .indX zp⟩
  | .sreZp zp => ⟨0x47, .sre, .zp zp⟩
  | .sreAbs w => ⟨0x4F, .sre, .abs w⟩
  | .sreIndY zp => ⟨0x53, .sre, .indY zp⟩
  | .sreZpX zp => ⟨0x57, .sre, .zpX zp⟩
  | .sreAbsY w => ⟨0x5B, .sre, .absY w⟩
  | .sreAbsX w => ⟨0x5F, .sre, .absX w⟩
  | .rraIndX zp => ⟨0x63, .rra, .indX zp⟩
  | .rraZp zp => ⟨0x67, .rra, .zp zp⟩
  | .rraAbs w => ⟨0x6F, .rra, .abs w⟩
  | .rraIndY zp => ⟨0x73, .rra, .indY zp⟩
  | .rraZpX zp => ⟨0x77, .rra, .zpX zp⟩
  | .rraAbsY w => ⟨0x7B, .rra, .absY w⟩
  | .rraAbsX w => ⟨0x7F, .rra, .absX w⟩
  | .dcpIndX zp => ⟨0xC3, .dcp, .indX zp⟩
  | .dcpZp zp => ⟨0xC7, .dcp, .zp zp⟩
  | .dcpAbs w => ⟨0xCF, .dcp, .abs w⟩
  | .dcpIndY zp => ⟨0xD3, .dcp, .indY zp⟩
  | .dcpZpX zp => ⟨0xD7, .dcp, .zpX zp⟩
  | .dcpAbsY w => ⟨0xDB, .dcp, .absY w⟩
  | .dcpAbsX w => ⟨0xDF, .dcp, .absX w⟩
  | .isbIndX zp => ⟨0xE3, .isb, .indX zp⟩
  | .isbZp zp => ⟨0xE7, .isb, .zp zp⟩
  | .isbAbs w => ⟨0xEF, .isb, .abs w⟩
  | .isbIndY zp => ⟨0xF3, .isb, .indY zp⟩
  | .isbZpX zp => ⟨0xF7, .isb, .zpX zp⟩
  | .isbAbsY w => ⟨0xFB, .isb, .absY w⟩
  | .isbAbsX w => ⟨0xFF, .isb, .absX w⟩
  | .bcc off => ⟨0x90, .bcc, .rel off⟩
  | .bcs off => ⟨0xB0, .bcs, .rel off⟩
  | .beq off => ⟨0xF0, .beq, .rel off⟩
  | .bne off => ⟨0xD0, .bne, .rel off⟩
  | .bmi off => ⟨0x30, .bmi, .rel off⟩
  | .bpl off => ⟨0x10, .bpl, .rel off⟩
  | .bvc off => ⟨0x50, .bvc, .rel off⟩
  | .bvs off => ⟨0x70, .bvs, .rel off⟩
  | .jmpAbs w => ⟨0x4C, .jmp, .abs w⟩
  | .jmpInd w => ⟨0x6C, .jmp, .ind w⟩
  | .jsr w => ⟨0x20, .jsr, .abs w⟩
  | .rts => ⟨0x60, .rts, .implied⟩
  | .rti => ⟨0x40, .rti, .implied⟩
  | .brk => ⟨0x00, .brk, .implied⟩
  | .pha => ⟨0x48, .pha, .implied⟩
  | .pla => ⟨0x68, .pla, .implied⟩
  | .php => ⟨0x08, .php, .implied⟩
  | .plp => ⟨0x28, .plp, .implied⟩
  | .clc => ⟨0x18, .clc, .implied⟩
  | .sec => ⟨0x38, .sec, .implied⟩
  | .cli => ⟨0x58, .cli, .implied⟩
  | .sei => ⟨0x78, .sei, .implied⟩
  | .clv => ⟨0xB8, .clv, .implied⟩
  | .cld => ⟨0xD8, .cld, .implied⟩
  | .sed => ⟨0xF8, .sed, .implied⟩
  | .nopZp04 zp => ⟨0x04, .nop, .zp zp⟩
  | .nopAbs0C w => ⟨0x0C, .nop, .abs w⟩
  | .nopZpX14 zp => ⟨0x14, .nop, .zpX zp⟩
  | .nop1A => ⟨0x1A, .nop, .implied⟩
  | .nopAbsX1C w => ⟨0x1C, .nop, .absX w⟩
  | .nopZpX34 zp => ⟨0x34, .nop, .zpX zp⟩
  | .nop3A => ⟨0x3A, .nop, .implied⟩
  | .nopAbsX3C w => ⟨0x3C, .nop, .absX w⟩
  | .nopZp44 zp => ⟨0x44, .nop, .zp zp⟩
  | .nopZpX54 zp => ⟨0x54, .nop, .zpX zp⟩
  | .nop5A => ⟨0x5A, .nop, .implied⟩
  | .nopAbsX5C w => ⟨0x5C, .nop, .absX w⟩
  | .nopZp64 zp => ⟨0x64, .nop, .zp zp⟩
  | .nopZpX74 zp => ⟨0x74, .nop, .zpX zp⟩
  | .nop7A => ⟨0x7A, .nop, .implied⟩
  | .nopAbsX7C w => ⟨0x7C, .nop, .absX w⟩
  | .nopImm80 v => ⟨0x80, .nop, .imm v⟩
  | .nopImm82 v => ⟨0x82, .nop, .imm v⟩
  | .nopImm89 v => ⟨0x89, .nop, .imm v⟩
  | .nopImmC2 v => ⟨0xC2, .nop, .imm v⟩
  | .nopZpXD4 zp => ⟨0xD4, .nop, .zpX zp⟩
  | .nopDA => ⟨0xDA, .nop, .implied⟩
  | .nopAbsXDC w => ⟨0xDC, .nop, .absX w⟩
  | .nopImmE2 v => ⟨0xE2, .nop, .imm v⟩
  | .nop => ⟨0xEA, .nop, .implied⟩
  | .nopZpXF4 zp => ⟨0xF4, .nop, .zpX zp⟩
  | .nopFA => ⟨0xFA, .nop, .implied⟩
  | .nopAbsXFC w => ⟨0xFC, .nop, .absX w⟩
  | .undef02 => ⟨0x02, .undef, .none⟩
  | .undef0B => ⟨0x0B, .undef, .none⟩
  | .undef12 => ⟨0x12, .undef, .none⟩
  | .undef22 => ⟨0x22, .undef, .none⟩
  | .undef2B => ⟨0x2B, .undef, .none⟩
  | .undef32 => ⟨0x32, .undef, .none⟩
  | .undef42 => ⟨0x42, .undef, .none⟩
  | .undef4B => ⟨0x4B, .undef, .none⟩
  | .undef52 => ⟨0x52, .undef, .none⟩
  | .undef62 => ⟨0x62, .undef, .none⟩
  | .undef6B => ⟨0x6B, .undef, .none⟩
  | .undef72 => ⟨0x72, .undef, .none⟩
  | .undef8B => ⟨0x8B, .undef, .none⟩
  | .undef92 => ⟨0x92, .undef, .none⟩
  | .undef93 => ⟨0x93, .undef, .none⟩
  | .undef9B => ⟨0x9B, .undef, .none⟩
  | .undef9C => ⟨0x9C, .undef, .none⟩
  | .undef9E => ⟨0x9E, .undef, .none⟩
  | .undef9F => ⟨0x9F, .undef, .none⟩
  | .undefAB => ⟨0xAB, .undef, .none⟩
  | .undefB2 => ⟨0xB2, .undef, .none⟩
  | .undefBB => ⟨0xBB, .undef, .none⟩
  | .undefCB => ⟨0xCB, .undef, .none⟩
  | .undefD2 => ⟨0xD2, .undef, .none⟩
  | .undefF2 => ⟨0xF2, .undef, .none⟩

/-- The mnemonic of an instruction. -/
def Instr.mnemonic (i : Instr) : Mnemonic := i.row.mnemonic

/-- The operand bytes of an operand, in memory order (30_encoding.md R300: the low byte follows the opcode). -/
def Operand.bytes : Operand → List Byte
  | .none | .implied | .accumulator => []
  | .imm v => [v]
  | .zp a | .zpX a | .zpY a | .indX a | .indY a => [a]
  | .rel off => [off]
  | .abs w | .absX w | .absY w | .ind w => [loByte w, hiByte w]

/-- The length in bytes of an instruction with this operand (30_encoding.md R300). -/
def Operand.length (o : Operand) : Nat := 1 + o.bytes.length

/-- The bytes of an instruction: its opcode, then its operand bytes. -/
def encode (i : Instr) : List Byte := i.row.opcode :: i.row.operand.bytes

/-! ### The opcode table as the spec lists it -/

/-- Row 0x of the opcode table: mnemonic and addressing mode of each entry (30_encoding.md R301, R314). -/
def tableRow0 : List (Mnemonic × Mode) :=
  [(.brk, .implied), (.ora, .indirectX), (.undef, .none), (.slo, .indirectX),
   (.nop, .zeroPage), (.ora, .zeroPage), (.asl, .zeroPage), (.slo, .zeroPage),
   (.php, .implied), (.ora, .immediate), (.asl, .accumulator), (.undef, .none),
   (.nop, .absolute), (.ora, .absolute), (.asl, .absolute), (.slo, .absolute)]

/-- Row 1x of the opcode table: mnemonic and addressing mode of each entry (30_encoding.md R301, R314). -/
def tableRow1 : List (Mnemonic × Mode) :=
  [(.bpl, .relative), (.ora, .indirectY), (.undef, .none), (.slo, .indirectY),
   (.nop, .zeroPageX), (.ora, .zeroPageX), (.asl, .zeroPageX), (.slo, .zeroPageX),
   (.clc, .implied), (.ora, .absoluteY), (.nop, .implied), (.slo, .absoluteY),
   (.nop, .absoluteX), (.ora, .absoluteX), (.asl, .absoluteX), (.slo, .absoluteX)]

/-- Row 2x of the opcode table: mnemonic and addressing mode of each entry (30_encoding.md R301, R314). -/
def tableRow2 : List (Mnemonic × Mode) :=
  [(.jsr, .absolute), (.and, .indirectX), (.undef, .none), (.rla, .indirectX),
   (.bit, .zeroPage), (.and, .zeroPage), (.rol, .zeroPage), (.rla, .zeroPage),
   (.plp, .implied), (.and, .immediate), (.rol, .accumulator), (.undef, .none),
   (.bit, .absolute), (.and, .absolute), (.rol, .absolute), (.rla, .absolute)]

/-- Row 3x of the opcode table: mnemonic and addressing mode of each entry (30_encoding.md R301, R314). -/
def tableRow3 : List (Mnemonic × Mode) :=
  [(.bmi, .relative), (.and, .indirectY), (.undef, .none), (.rla, .indirectY),
   (.nop, .zeroPageX), (.and, .zeroPageX), (.rol, .zeroPageX), (.rla, .zeroPageX),
   (.sec, .implied), (.and, .absoluteY), (.nop, .implied), (.rla, .absoluteY),
   (.nop, .absoluteX), (.and, .absoluteX), (.rol, .absoluteX), (.rla, .absoluteX)]

/-- Row 4x of the opcode table: mnemonic and addressing mode of each entry (30_encoding.md R301, R314). -/
def tableRow4 : List (Mnemonic × Mode) :=
  [(.rti, .implied), (.eor, .indirectX), (.undef, .none), (.sre, .indirectX),
   (.nop, .zeroPage), (.eor, .zeroPage), (.lsr, .zeroPage), (.sre, .zeroPage),
   (.pha, .implied), (.eor, .immediate), (.lsr, .accumulator), (.undef, .none),
   (.jmp, .absolute), (.eor, .absolute), (.lsr, .absolute), (.sre, .absolute)]

/-- Row 5x of the opcode table: mnemonic and addressing mode of each entry (30_encoding.md R301, R314). -/
def tableRow5 : List (Mnemonic × Mode) :=
  [(.bvc, .relative), (.eor, .indirectY), (.undef, .none), (.sre, .indirectY),
   (.nop, .zeroPageX), (.eor, .zeroPageX), (.lsr, .zeroPageX), (.sre, .zeroPageX),
   (.cli, .implied), (.eor, .absoluteY), (.nop, .implied), (.sre, .absoluteY),
   (.nop, .absoluteX), (.eor, .absoluteX), (.lsr, .absoluteX), (.sre, .absoluteX)]

/-- Row 6x of the opcode table: mnemonic and addressing mode of each entry (30_encoding.md R301, R314). -/
def tableRow6 : List (Mnemonic × Mode) :=
  [(.rts, .implied), (.adc, .indirectX), (.undef, .none), (.rra, .indirectX),
   (.nop, .zeroPage), (.adc, .zeroPage), (.ror, .zeroPage), (.rra, .zeroPage),
   (.pla, .implied), (.adc, .immediate), (.ror, .accumulator), (.undef, .none),
   (.jmp, .indirect), (.adc, .absolute), (.ror, .absolute), (.rra, .absolute)]

/-- Row 7x of the opcode table: mnemonic and addressing mode of each entry (30_encoding.md R301, R314). -/
def tableRow7 : List (Mnemonic × Mode) :=
  [(.bvs, .relative), (.adc, .indirectY), (.undef, .none), (.rra, .indirectY),
   (.nop, .zeroPageX), (.adc, .zeroPageX), (.ror, .zeroPageX), (.rra, .zeroPageX),
   (.sei, .implied), (.adc, .absoluteY), (.nop, .implied), (.rra, .absoluteY),
   (.nop, .absoluteX), (.adc, .absoluteX), (.ror, .absoluteX), (.rra, .absoluteX)]

/-- Row 8x of the opcode table: mnemonic and addressing mode of each entry (30_encoding.md R301, R314). -/
def tableRow8 : List (Mnemonic × Mode) :=
  [(.nop, .immediate), (.sta, .indirectX), (.nop, .immediate), (.sax, .indirectX),
   (.sty, .zeroPage), (.sta, .zeroPage), (.stx, .zeroPage), (.sax, .zeroPage),
   (.dey, .implied), (.nop, .immediate), (.txa, .implied), (.undef, .none),
   (.sty, .absolute), (.sta, .absolute), (.stx, .absolute), (.sax, .absolute)]

/-- Row 9x of the opcode table: mnemonic and addressing mode of each entry (30_encoding.md R301, R314). -/
def tableRow9 : List (Mnemonic × Mode) :=
  [(.bcc, .relative), (.sta, .indirectY), (.undef, .none), (.undef, .none),
   (.sty, .zeroPageX), (.sta, .zeroPageX), (.stx, .zeroPageY), (.sax, .zeroPageY),
   (.tya, .implied), (.sta, .absoluteY), (.txs, .implied), (.undef, .none),
   (.undef, .none), (.sta, .absoluteX), (.undef, .none), (.undef, .none)]

/-- Row Ax of the opcode table: mnemonic and addressing mode of each entry (30_encoding.md R301, R314). -/
def tableRowA : List (Mnemonic × Mode) :=
  [(.ldy, .immediate), (.lda, .indirectX), (.ldx, .immediate), (.lax, .indirectX),
   (.ldy, .zeroPage), (.lda, .zeroPage), (.ldx, .zeroPage), (.lax, .zeroPage),
   (.tay, .implied), (.lda, .immediate), (.tax, .implied), (.undef, .none),
   (.ldy, .absolute), (.lda, .absolute), (.ldx, .absolute), (.lax, .absolute)]

/-- Row Bx of the opcode table: mnemonic and addressing mode of each entry (30_encoding.md R301, R314). -/
def tableRowB : List (Mnemonic × Mode) :=
  [(.bcs, .relative), (.lda, .indirectY), (.undef, .none), (.lax, .indirectY),
   (.ldy, .zeroPageX), (.lda, .zeroPageX), (.ldx, .zeroPageY), (.lax, .zeroPageY),
   (.clv, .implied), (.lda, .absoluteY), (.tsx, .implied), (.undef, .none),
   (.ldy, .absoluteX), (.lda, .absoluteX), (.ldx, .absoluteY), (.lax, .absoluteY)]

/-- Row Cx of the opcode table: mnemonic and addressing mode of each entry (30_encoding.md R301, R314). -/
def tableRowC : List (Mnemonic × Mode) :=
  [(.cpy, .immediate), (.cmp, .indirectX), (.nop, .immediate), (.dcp, .indirectX),
   (.cpy, .zeroPage), (.cmp, .zeroPage), (.dec, .zeroPage), (.dcp, .zeroPage),
   (.iny, .implied), (.cmp, .immediate), (.dex, .implied), (.undef, .none),
   (.cpy, .absolute), (.cmp, .absolute), (.dec, .absolute), (.dcp, .absolute)]

/-- Row Dx of the opcode table: mnemonic and addressing mode of each entry (30_encoding.md R301, R314). -/
def tableRowD : List (Mnemonic × Mode) :=
  [(.bne, .relative), (.cmp, .indirectY), (.undef, .none), (.dcp, .indirectY),
   (.nop, .zeroPageX), (.cmp, .zeroPageX), (.dec, .zeroPageX), (.dcp, .zeroPageX),
   (.cld, .implied), (.cmp, .absoluteY), (.nop, .implied), (.dcp, .absoluteY),
   (.nop, .absoluteX), (.cmp, .absoluteX), (.dec, .absoluteX), (.dcp, .absoluteX)]

/-- Row Ex of the opcode table: mnemonic and addressing mode of each entry (30_encoding.md R301, R314). -/
def tableRowE : List (Mnemonic × Mode) :=
  [(.cpx, .immediate), (.sbc, .indirectX), (.nop, .immediate), (.isb, .indirectX),
   (.cpx, .zeroPage), (.sbc, .zeroPage), (.inc, .zeroPage), (.isb, .zeroPage),
   (.inx, .implied), (.sbc, .immediate), (.nop, .implied), (.sbc, .immediate),
   (.cpx, .absolute), (.sbc, .absolute), (.inc, .absolute), (.isb, .absolute)]

/-- Row Fx of the opcode table: mnemonic and addressing mode of each entry (30_encoding.md R301, R314). -/
def tableRowF : List (Mnemonic × Mode) :=
  [(.beq, .relative), (.sbc, .indirectY), (.undef, .none), (.isb, .indirectY),
   (.nop, .zeroPageX), (.sbc, .zeroPageX), (.inc, .zeroPageX), (.isb, .zeroPageX),
   (.sed, .implied), (.sbc, .absoluteY), (.nop, .implied), (.isb, .absoluteY),
   (.nop, .absoluteX), (.sbc, .absoluteX), (.inc, .absoluteX), (.isb, .absoluteX)]

/-- The opcode table of 30_encoding.md R301, without its base cycles, which are the parameter BASE_CYCLES. -/
def opcodeTable : List (List (Mnemonic × Mode)) :=
  [tableRow0, tableRow1, tableRow2, tableRow3, tableRow4, tableRow5, tableRow6, tableRow7,
   tableRow8, tableRow9, tableRowA, tableRowB, tableRowC, tableRowD, tableRowE, tableRowF]

/-- The mnemonic and mode the table gives an opcode byte. -/
def tableEntry (op : Byte) : Mnemonic × Mode :=
  (opcodeTable.getD (op.toNat / 16) []).getD (op.toNat % 16) (.undef, .none)

/-! ### The host's word -/

/-- The three bytes of an opcode-table word, first byte in bits 7:0; bits at and above `nbits` count as 0. -/
def tableWordBytes (nbits w : Nat) : List Byte :=
  let v := w % 2 ^ nbits
  [BitVec.ofNat 8 v, BitVec.ofNat 8 (v / 256), BitVec.ofNat 8 (v / 65536)]

/-- The instruction the decoder reads from an instruction word numbered as spec/opcode_table.json numbers it. -/
def decodeTableWord (nbits w : Nat) : Option Instr :=
  match decode (tableWordBytes nbits w) with
  | .ok (i, _) => some i
  | .error _ => none

end Sys2Proof
end

