-- ==== Sys2Proof/Machine/Flags.lean ====
section
/-! DEFINITION. The status byte (10_state.md R104) and every flag computation of the instruction files, on bytes and the
status alone; on `Cpu` where the result is a register. -/

namespace Sys2Proof.Machine

/-- pack(P): the status byte N V 1 B D I Z C, bit 5 always 1 (R104). -/
def Status.pack (p : Status) : Byte :=
  BitVec.ofBool p.n ++ BitVec.ofBool p.v ++ 1#1 ++ BitVec.ofBool p.b ++ BitVec.ofBool p.d ++ BitVec.ofBool p.i ++
    BitVec.ofBool p.z ++ BitVec.ofBool p.c

/-- unpack(b): every flag from its bit, the reserved bit forced to 1 (R104). -/
def Status.unpack (b : Byte) : Status where
  n := b.getLsbD 7
  v := b.getLsbD 6
  r := true
  b := b.getLsbD 4
  d := b.getLsbD 3
  i := b.getLsbD 2
  z := b.getLsbD 1
  c := b.getLsbD 0

/-- setNZ(v): N is bit 7, Z is v = 0 (00_scope.md R9). -/
def setNZ (v : Byte) (p : Status) : Status := { p with n := v.getLsbD 7, z := v == 0 }

/-! ### Arithmetic on A (41_arithmetic_logic.md R430, R431) -/

/-- The carry as a number. -/
def carryIn (p : Status) : Nat := p.c.toNat

/-- ADC_core(M): A + M + C computed unmasked, then C, V, N, Z and A (R430); D is not consulted. -/
def adcCore (m : Byte) (c : Cpu) : Cpu :=
  let r := c.a.toNat + m.toNat + carryIn c.p
  let r8 : Byte := BitVec.ofNat 8 r
  let v := ((c.a ^^^ m) &&& 0x80 == 0) && ((c.a ^^^ r8) &&& 0x80 != 0)
  { c with a := r8, p := setNZ r8 { c.p with c := decide (r > 0xFF), v := v } }

/-- SBC: ADC with the operand complemented (R431). -/
def sbcCore (m : Byte) (c : Cpu) : Cpu := adcCore (~~~m) c

/-- A ← A & M with N, Z (R432). -/
def andCore (m : Byte) (c : Cpu) : Cpu := { c with a := c.a &&& m, p := setNZ (c.a &&& m) c.p }

/-- A ← A | M with N, Z (R433). -/
def oraCore (m : Byte) (c : Cpu) : Cpu := { c with a := c.a ||| m, p := setNZ (c.a ||| m) c.p }

/-- A ← A ^ M with N, Z (R434). -/
def eorCore (m : Byte) (c : Cpu) : Cpu := { c with a := c.a ^^^ m, p := setNZ (c.a ^^^ m) c.p }

/-- Compare a register with M: C is reg ≥ M unsigned, N and Z of the 8-bit difference, V unchanged (R435). -/
def compareFlags (reg m : Byte) (p : Status) : Status :=
  setNZ (reg - m) { p with c := decide (m.toNat ≤ reg.toNat) }

/-- BIT: N and V are bits 7 and 6 of M, Z is A AND M = 0 (R438). -/
def bitFlags (a m : Byte) (p : Status) : Status :=
  { p with n := m.getLsbD 7, v := m.getLsbD 6, z := a &&& m == 0 }

/-! ### Shifts, rotates, increment and decrement: a byte and the status to the new byte and status -/

/-- ASL: C ← bit 7, bit 0 ← 0 (42_shift_rotate_rmw.md R460). -/
def aslOp (v : Byte) (p : Status) : Byte × Status :=
  let r := v <<< 1
  (r, setNZ r { p with c := v.getLsbD 7 })

/-- LSR: C ← bit 0, N ← 0, Z of the result (R461). -/
def lsrOp (v : Byte) (p : Status) : Byte × Status :=
  let r := v >>> 1
  (r, { p with c := v.getLsbD 0, n := false, z := r == 0 })

/-- ROL through C: the old C enters bit 0, C ← old bit 7 (R462). -/
def rolOp (v : Byte) (p : Status) : Byte × Status :=
  let r := (v <<< 1) ||| (BitVec.ofBool p.c).setWidth 8
  (r, setNZ r { p with c := v.getLsbD 7 })

/-- ROR through C: the old C enters bit 7, C ← old bit 0 (R463). -/
def rorOp (v : Byte) (p : Status) : Byte × Status :=
  let r := (v >>> 1) ||| ((BitVec.ofBool p.c).setWidth 8 <<< 7)
  (r, setNZ r { p with c := v.getLsbD 0 })

/-- Increment modulo 256 with N, Z; C and V unchanged (41_arithmetic_logic.md R439, R441, R442). -/
def incOp (v : Byte) (p : Status) : Byte × Status := (v + 1, setNZ (v + 1) p)

/-- Decrement modulo 256 with N, Z; C and V unchanged (R440, R443, R444). -/
def decOp (v : Byte) (p : Status) : Byte × Status := (v - 1, setNZ (v - 1) p)

end Sys2Proof.Machine
end

