-- ==== Sys2Proof/Machine/Ppu.lean ====
section
/-! DEFINITION. The PPU bus (20_memory.md R220 to R225) and the PPU's register file as the CPU reaches it (60_exceptions.md
R620 to R628), as functions of the configuration and the PPU alone. -/

namespace Sys2Proof.Machine

/-! ### The PPU bus -/

/-- NtMap(o): the VRAM index of a nametable offset o in 0..$FFF (R222). -/
def ntMap (m : Mirroring) (o : Nat) : Nat :=
  match m with
  | .horizontal => (o &&& 0x03FF) ||| ((o &&& 0x0800) >>> 1)
  | .vertical => o &&& 0x07FF

/-- The palette indexes that mirror $00, $04, $08 and $0C (R223). -/
def isPaletteMirror (i : Nat) : Bool := i == 0x10 || i == 0x14 || i == 0x18 || i == 0x1C

/-- PaletteWrite(i, v): the mirror bit is folded out before storing (R223). -/
def paletteWrite (p : Ppu) (i : Nat) (v : Byte) : Ppu :=
  let i := if isPaletteMirror i then i - 0x10 else i
  { p with palette := p.palette.write i v }

/-- PaletteRead(i): the read view, with the optional collapse of $04, $08, $0C onto $00 (R224). -/
def paletteRead (cfg : Config) (p : Ppu) (i : Nat) : Byte :=
  if isPaletteMirror i then p.palette.read (i - 0x10)
  else if cfg.paletteBgMirrorCollapse && (i == 0x04 || i == 0x08 || i == 0x0C) then p.palette.read 0x00
  else p.palette.read i

/-- PpuRead(e) for e < $4000 (R220). -/
def ppuRead (cfg : Config) (p : Ppu) (e : Nat) : Byte :=
  if e ≤ 0x1FFF then p.chr.read e
  else if e ≤ 0x3EFF then p.vram.read (ntMap cfg.mirroring ((e - 0x2000) &&& 0x0FFF))
  else paletteRead cfg p (e &&& 0x1F)

/-- PpuWrite(e, v) for e < $4000; CHR-ROM is not written (R221). -/
def ppuWrite (cfg : Config) (p : Ppu) (e : Nat) (v : Byte) : Ppu :=
  if e ≤ 0x1FFF then (if cfg.chrIsRam then { p with chr := p.chr.write e v } else p)
  else if e ≤ 0x3EFF then
    { p with vram := p.vram.write (ntMap cfg.mirroring ((e - 0x2000) &&& 0x0FFF)) v }
  else paletteWrite p (e &&& 0x1F) v

/-! ### The register file -/

/-- The eight PPU registers (10_state.md R116). -/
inductive PpuReg where
  | ctrl | mask | status | oamAddr | oamData | scroll | addr | data
  deriving DecidableEq, Repr

/-- The register an address of the window selects: addr & 7 (20_memory.md R208). -/
def PpuReg.ofIndex : Nat → PpuReg
  | 0 => .ctrl
  | 1 => .mask
  | 2 => .status
  | 3 => .oamAddr
  | 4 => .oamData
  | 5 => .scroll
  | 6 => .addr
  | _ => .data

/-- The step of `vram_addr` per $2007 access: control bit 2 (10_state.md R117). -/
def vramStep (p : Ppu) : Word := if p.ctrl.getLsbD 2 then 32 else 1

/-- The effective 14-bit PPU address of $2007 (R220). -/
def effectiveAddr (p : Ppu) : Nat := (p.vramAddr &&& 0x3FFF).toNat

/-- The status byte: vblank in bit 7, sprite-0 hit in bit 6, the rest 0 (10_state.md R119). -/
def statusByte (p : Ppu) : Byte := BitVec.ofBool p.vblank ++ BitVec.ofBool p.sprite0Hit ++ 0#6

/-- StatusRead(): the latched flags; vblank and w are cleared (60_exceptions.md R623). -/
def statusRead (p : Ppu) : Byte × Ppu := (statusByte p, { p with vblank := false, w := false })

/-- The byte of OAM at the cursor (R625). -/
def oamDataRead (p : Ppu) : Byte := p.oam.read p.oamAddr.toNat

/-- An OAMDATA write: store at the cursor, then advance it modulo 256 (R625). -/
def oamDataWrite (p : Ppu) (v : Byte) : Ppu :=
  { p with oam := p.oam.write p.oamAddr.toNat v, oamAddr := p.oamAddr + 1 }

/-- A scroll write: the toggle selects scroll_x or scroll_y (R626). -/
def scrollWrite (p : Ppu) (v : Byte) : Ppu :=
  if p.w then { p with scrollY := v, w := false } else { p with scrollX := v, w := true }

/-- An address write: the first sets the high byte and clears the low, the second adds (R627). -/
def addrWrite (p : Ppu) (v : Byte) : Ppu :=
  if p.w then { p with vramAddr := p.vramAddr + v.setWidth 16, w := false }
  else { p with vramAddr := v.setWidth 16 <<< 8, w := true }

/-- DataRead(): a palette byte at once, any other byte through the read buffer; then vram_addr advances (R628). -/
def dataRead (cfg : Config) (p : Ppu) : Byte × Ppu :=
  let e := effectiveAddr p
  if e ≥ 0x3F00 then (paletteRead cfg p (e &&& 0x1F), { p with vramAddr := p.vramAddr + vramStep p })
  else (p.readBuffer, { p with readBuffer := ppuRead cfg p e, vramAddr := p.vramAddr + vramStep p })

/-- DataWrite(v): a PPU-bus write, then vram_addr advances (R628). -/
def dataWrite (cfg : Config) (p : Ppu) (v : Byte) : Ppu :=
  { ppuWrite cfg p (effectiveAddr p) v with vramAddr := p.vramAddr + vramStep p }

/-- PpuRegRead(r): status, OAMDATA and data have a value; the write-only registers read 0 without effect (R620). -/
def ppuRegRead (cfg : Config) (r : PpuReg) (p : Ppu) : Byte × Ppu :=
  match r with
  | .status => statusRead p
  | .oamData => (oamDataRead p, p)
  | .data => dataRead cfg p
  | .ctrl | .mask | .oamAddr | .scroll | .addr => (0, p)

/-- PpuRegWrite(r, v): rules R621, R622, R624 to R628; a write of the status register has no effect (R620). -/
def ppuRegWrite (cfg : Config) (r : PpuReg) (v : Byte) (p : Ppu) : Ppu :=
  match r with
  | .ctrl => { p with ctrl := v }
  | .mask => { p with mask := v }
  | .status => p
  | .oamAddr => { p with oamAddr := v }
  | .oamData => oamDataWrite p v
  | .scroll => scrollWrite p v
  | .addr => addrWrite p v
  | .data => dataWrite cfg p v

end Sys2Proof.Machine
end

