-- ==== Sys2Proof/Machine/Ops.lean ====
section
/-! DEFINITION. The named operations over memory and registers: the CPU bus (20_memory.md R200 to R210), the stack
(10_state.md R102), taking an interrupt or BRK and returning from one (60_exceptions.md R602 to R608, 43_control_flow.md
R502, R503), the OAM DMA unit (R640 to R642), and raising a fault (R601). -/

namespace Sys2Proof.Machine

/-! ### The CPU bus -/

/-- What an address of the CPU bus selects (20_memory.md R204, R205). -/
inductive BusTarget where
  | ram (i : Nat)          -- work RAM, mirrored every 2 KiB
  | ppuReg (r : PpuReg)    -- the PPU window, mirrored every 8 bytes
  | oamDma                 -- $4014
  | controller             -- $4016
  | unmapped               -- the rest of $4000 to $7FFF
  | prg (off : Nat)        -- PRG, a 16 KiB image mirrored
  deriving DecidableEq, Repr

/-- The CPU bus demultiplexer: RAM index a & $07FF, PPU register a & 7, PRG offset (a − $8000) mod the image size
(R204, R206, R207, R208). -/
def busTarget (cfg : Config) (a : Word) : BusTarget :=
  let n := a.toNat
  if n ≤ 0x1FFF then .ram (n % 0x800)
  else if n ≤ 0x3FFF then .ppuReg (.ofIndex (n % 8))
  else if n = 0x4014 then .oamDma
  else if n = 0x4016 then .controller
  else if n ≤ 0x7FFF then .unmapped
  else .prg ((n - 0x8000) % cfg.prgSize.bytes)

/-- MemRead(a, 1): the byte and the state after the read's side effects (R204, R209). -/
def busRead (a : Word) (s : State) : Byte × State :=
  match busTarget s.cfg a with
  | .ram i => (s.ram.read i, s)
  | .ppuReg r => ((ppuRegRead s.cfg r s.ppu).1, { s with ppu := (ppuRegRead s.cfg r s.ppu).2 })
  | .controller => (s.pad.read.1, { s with pad := s.pad.read.2 })
  | .oamDma | .unmapped => (0, s)
  | .prg off => (s.cfg.prg.read off, s)

/-- DmaArm(v): the page and the pending flag (60_exceptions.md R640). -/
def dmaArm (v : Byte) (_d : Dma) : Dma := { page := v, pending := true }

/-- MemWrite(a, 1, v): RAM, a PPU register, the DMA register or the controller; elsewhere no effect (R205). -/
def busWrite (a : Word) (v : Byte) (s : State) : State :=
  match busTarget s.cfg a with
  | .ram i => { s with ram := s.ram.write i v }
  | .ppuReg r => { s with ppu := ppuRegWrite s.cfg r v s.ppu }
  | .oamDma => { s with dma := dmaArm v s.dma }
  | .controller => { s with pad := s.pad.write v }
  | .unmapped | .prg _ => s

/-- ReadWord(a): two bus reads, low byte at a first, then high byte at a + 1 modulo $10000 (R201). -/
def readWord (a : Word) (s : State) : Word × State :=
  let lo := busRead a s
  let hi := busRead (a + 1) lo.2
  (joinBytes hi.1 lo.1, hi.2)

/-! ### Registers and the stack -/

/-- The state with its CPU registers changed. -/
def State.mapCpu (f : Cpu → Cpu) (s : State) : State := { s with cpu := f s.cpu }

/-- PC ← target. -/
def State.setPc (t : Word) (s : State) : State := { s with cpu := { s.cpu with pc := t } }

/-- The stack address $0100 | SP (10_state.md R101). -/
def stackAddr (sp : Byte) : Word := joinBytes 0x01 sp

/-- push(v): write at $0100 | SP, then SP − 1 modulo 256 (R102). -/
def push (v : Byte) (s : State) : State :=
  (busWrite (stackAddr s.cpu.sp) v s).mapCpu fun c => { c with sp := c.sp - 1 }

/-- pop(): SP + 1 modulo 256, then the byte at $0100 | SP (R102). -/
def pop (s : State) : Byte × State :=
  let s1 := s.mapCpu fun c => { c with sp := c.sp + 1 }
  busRead (stackAddr s1.cpu.sp) s1

/-- The two pushes of a 16-bit value: high byte, then low byte (20_memory.md R201). -/
def pushWord (w : Word) (s : State) : State := push (loByte w) (push (hiByte w) s)

/-- The two pops of a 16-bit value: low byte, then high byte. -/
def popWord (s : State) : Word × State :=
  let lo := pop s
  let hi := pop lo.2
  (joinBytes hi.1 lo.1, hi.2)

/-! ### Taking an interrupt or BRK, and returning -/

/-- The vectors of 60_exceptions.md R608. -/
def nmiVector : Word := 0xFFFA
def resetVector : Word := 0xFFFC
def irqVector : Word := 0xFFFE

/-- The common entry (R603; R503 for BRK): B ← b; push PC high, PC low and the packed status; I ← 1; PC ← the vector's word. -/
def enterInterrupt (b : Bool) (vector : Word) (s : State) : State :=
  let s1 := s.mapCpu fun c => { c with p := { c.p with b := b } }
  let s2 := pushWord s1.cpu.pc s1
  let s3 := push s2.cpu.p.pack s2
  let s4 := s3.mapCpu fun c => { c with p := { c.p with i := true } }
  let v := readWord vector s4
  v.2.setPc v.1

/-- Dispatch(vector): the entry of NMI and IRQ, with B cleared (R603). -/
def dispatch (vector : Word) (s : State) : State := enterInterrupt false vector s

/-- The interrupt check at the top of a step, at most one dispatch, NMI first, IRQ only with I = 0 (R602 part 1, R606). -/
def interruptCheck (s : State) : State :=
  if s.nmiLine then dispatch nmiVector { s with nmiLine := false }
  else if s.irqLine ∧ s.cpu.p.i = false then dispatch irqVector { s with irqLine := false }
  else s

/-- The return from an interrupt: status popped and unpacked, then PC low and high, not incremented (R502, R607). -/
def returnFromInterrupt (s : State) : State :=
  let st := pop s
  let s1 := st.2.mapCpu fun c => { c with p := Status.unpack st.1 }
  let t := popWord s1
  t.2.setPc t.1

/-- Raising a fault: it is recorded, and the step reports no cycle count (60_exceptions.md R601, 44 R532). -/
def raiseFault (f : Fault) (s : State) : State := { s with fault := some f, cycles := 0 }

/-! ### OAM DMA -/

/-- Byte `i` of the transfer: read from work RAM or through the CPU bus, stored at OAM index `i` (R641). -/
def dmaByte (s : State) (i : Nat) : State :=
  let src : Word := joinBytes s.dma.page (BitVec.ofNat 8 i)
  let b := match s.cfg.dmaHighPageSource with
    | .ramMirror => (s.ram.read (src.toNat % 0x800), s)
    | .cpuBus => busRead src s
  { b.2 with ppu := { b.2.ppu with oam := b.2.ppu.oam.write i b.1 } }

/-- DmaRun(): the 256 bytes in index order, then the pending flag is cleared (R641). -/
def dmaRun (s : State) : State :=
  let s1 := (List.range 256).foldl dmaByte s
  { s1 with dma := { s1.dma with pending := false } }

/-- The DMA iteration's first half: the copy, and the stall as the iteration's cycle count (R642, R660). -/
def dmaIteration (s : State) : State :=
  let s1 := dmaRun s
  { s1 with cycles := s1.cfg.dmaStall.toNat }

end Sys2Proof.Machine
end

