-- ==== Sys2Proof/Machine/Operands.lean ====
section
/-! DEFINITION. The addressing modes (30_encoding.md R302 to R313) and the three ways an instruction uses its operand:
reading it, storing to it, reading and writing it back (00_scope.md R10). Every meaning runs after the instruction's bytes
have been fetched, with PC at the next instruction (10_state.md R103; log 7). -/

namespace Sys2Proof.Machine

/-- What an addressing mode produces: payload, extra cycle, and the state after its pointer reads (R302). -/
structure Resolved where
  payload : Word
  extra : Bool
  state : State
  deriving DecidableEq, Repr

/-- crosses(a, b): the high bytes differ (R302). -/
def crosses (a b : Word) : Bool := hiByte a != hiByte b

/-- The word at a zero-page pointer, its high byte taken with zero-page wrap (R310, R311). -/
def readZpPointer (z : Byte) (s : State) : Word × State :=
  let lo := busRead (zext16 z) s
  let hi := busRead (zext16 (z + 1)) lo.2
  (joinBytes hi.1 lo.1, hi.2)

/-- The word at a 16-bit pointer with the page-wrap bug: the high byte comes from the same page (R312). -/
def readIndirect (p : Word) (s : State) : Word × State :=
  let lo := busRead p s
  let hi := busRead (joinBytes (hiByte p) (loByte p + 1)) lo.2
  (joinBytes hi.1 lo.1, hi.2)

/-- The branch target: the next instruction's address plus the signed offset (R309). -/
def branchTarget (off : Byte) (s : State) : Word := s.cpu.pc + sext16 off

/-- The reference of the branch page-cross test; the opcode lies two bytes before the next instruction (R309). -/
def branchReference (s : State) : Word :=
  match s.cfg.branchCrossBase with
  | .opcodeAddr => s.cpu.pc - 2
  | .nextPC => s.cpu.pc

/-- Operand(mode) without the operand fetch, which the fetch has made: payload, extra and the pointer reads (R303 to
R312). -/
def resolve (o : Operand) (s : State) : Resolved :=
  match o with
  | .none | .implied | .accumulator => ⟨0, false, s⟩
  | .imm v => ⟨zext16 v, false, s⟩
  | .zp a => ⟨zext16 a, false, s⟩
  | .zpX a => ⟨zext16 (a + s.cpu.x), false, s⟩
  | .zpY a => ⟨zext16 (a + s.cpu.y), false, s⟩
  | .rel off => ⟨branchTarget off s, crosses (branchReference s) (branchTarget off s), s⟩
  | .indX a =>
    let p := readZpPointer (a + s.cpu.x) s
    ⟨p.1, false, p.2⟩
  | .indY a =>
    let p := readZpPointer a s
    let t := p.1 + zext16 s.cpu.y
    ⟨t, crosses p.1 t, p.2⟩
  | .abs w => ⟨w, false, s⟩
  | .absX w => ⟨w + zext16 s.cpu.x, crosses w (w + zext16 s.cpu.x), s⟩
  | .absY w => ⟨w + zext16 s.cpu.y, crosses w (w + zext16 s.cpu.y), s⟩
  | .ind p =>
    let t := readIndirect p s
    ⟨t.1, false, t.2⟩

/-- The operand of a read-class instruction: the payload for Immediate, else one bus read at the payload (00_scope.md
R10). The answer is the byte, the extra cycle and the state after the reads. -/
def readOperand (o : Operand) (s : State) : Byte × Bool × State :=
  match o with
  | .imm v => (v, false, s)
  | _ =>
    let r := resolve o s
    let v := busRead r.payload r.state
    (v.1, r.extra, v.2)

/-! ### The shapes of an instruction -/

/-- A read-class instruction: read the operand, change the registers by it (R10). -/
def readInstr (r : Row) (f : Byte → Cpu → Cpu) (s : State) : Out :=
  let v := readOperand r.operand s
  .next (finish r v.2.1 false (v.2.2.mapCpu (f v.1)))

/-- A store: one bus write of a register value at the payload (R10); the target is not read. -/
def storeInstr (r : Row) (value : Cpu → Byte) (s : State) : Out :=
  let a := resolve r.operand s
  .next (finish r a.extra false (busWrite a.payload (value a.state.cpu) a.state))

/-- A read-modify-write instruction: `f` gives the new byte and status; on a memory operand one read and one write at the
payload; then `g` takes the written byte (42_shift_rotate_rmw.md, RMW and the compositions). -/
def rmwInstr (r : Row) (f : Byte → Status → Byte × Status) (g : Byte → Cpu → Cpu) (s : State) : Out :=
  match r.operand with
  | .accumulator =>
    .next (finish r false false (s.mapCpu fun c => { c with a := (f c.a c.p).1, p := (f c.a c.p).2 }))
  | _ =>
    let a := resolve r.operand s
    let v := busRead a.payload a.state
    let w := f v.1 v.2.cpu.p
    let s1 := busWrite a.payload w.1 v.2
    .next (finish r a.extra false (s1.mapCpu fun c => g w.1 { c with p := w.2 }))

/-- An implied instruction on the registers alone. -/
def impliedInstr (r : Row) (f : Cpu → Cpu) (s : State) : Out := .next (finish r false false (s.mapCpu f))

/-- Branch(cond): PC ← payload when the condition holds (43_control_flow.md R490). -/
def branchInstr (r : Row) (cond : Status → Bool) (s : State) : Out :=
  let a := resolve r.operand s
  let taken := cond s.cpu.p
  .next (finish r a.extra taken (if taken then a.state.setPc a.payload else a.state))

end Sys2Proof.Machine
end

