-- ==== Sys2Proof/Machine/Arith.lean ====
section
/-! DEFINITION. Arithmetic, logic, compare, increment and decrement (41_arithmetic_logic.md R430 to R444): the meaning of
each mnemonic over any row, then one definition per row. -/

namespace Sys2Proof.Machine

/-- ADC (R430). -/
def opAdc (r : Row) (s : State) : Out := readInstr r adcCore s

/-- SBC, ADC with the operand complemented (R431). -/
def opSbc (r : Row) (s : State) : Out := readInstr r sbcCore s

/-- AND (R432). -/
def opAnd (r : Row) (s : State) : Out := readInstr r andCore s

/-- ORA (R433). -/
def opOra (r : Row) (s : State) : Out := readInstr r oraCore s

/-- EOR (R434). -/
def opEor (r : Row) (s : State) : Out := readInstr r eorCore s

/-- BIT: N, V, Z; A unchanged (R438). -/
def opBit (r : Row) (s : State) : Out := readInstr r (fun m c => { c with p := bitFlags c.a m c.p }) s

/-- CMP: A against M (R435). -/
def opCmp (r : Row) (s : State) : Out := readInstr r (fun m c => { c with p := compareFlags c.a m c.p }) s

/-- CPX: X against M (R436). -/
def opCpx (r : Row) (s : State) : Out := readInstr r (fun m c => { c with p := compareFlags c.x m c.p }) s

/-- CPY: Y against M (R437). -/
def opCpy (r : Row) (s : State) : Out := readInstr r (fun m c => { c with p := compareFlags c.y m c.p }) s

/-- INC on memory (R439). -/
def opInc (r : Row) (s : State) : Out := rmwInstr r incOp (fun _ c => c) s

/-- DEC on memory (R440). -/
def opDec (r : Row) (s : State) : Out := rmwInstr r decOp (fun _ c => c) s

/-- INX (R441). -/
def opInx (r : Row) (s : State) : Out :=
  impliedInstr r (fun c => { c with x := (incOp c.x c.p).1, p := (incOp c.x c.p).2 }) s

/-- INY (R442). -/
def opIny (r : Row) (s : State) : Out :=
  impliedInstr r (fun c => { c with y := (incOp c.y c.p).1, p := (incOp c.y c.p).2 }) s

/-- DEX (R443). -/
def opDex (r : Row) (s : State) : Out :=
  impliedInstr r (fun c => { c with x := (decOp c.x c.p).1, p := (decOp c.x c.p).2 }) s

/-- DEY (R444). -/
def opDey (r : Row) (s : State) : Out :=
  impliedInstr r (fun c => { c with y := (decOp c.y c.p).1, p := (decOp c.y c.p).2 }) s

/-! ### The rows of the opcode table -/

/-- $61 `ADC (zp,X)` (R430). -/
def execAdcIndX (zp : Byte) (s : State) : Out := opAdc ⟨0x61, .adc, .indX zp⟩ s
/-- $65 `ADC zp` (R430). -/
def execAdcZp (zp : Byte) (s : State) : Out := opAdc ⟨0x65, .adc, .zp zp⟩ s
/-- $69 `ADC #v` (R430). -/
def execAdcImm (v : Byte) (s : State) : Out := opAdc ⟨0x69, .adc, .imm v⟩ s
/-- $6D `ADC w` (R430). -/
def execAdcAbs (w : Word) (s : State) : Out := opAdc ⟨0x6D, .adc, .abs w⟩ s
/-- $71 `ADC (zp),Y` (R430). -/
def execAdcIndY (zp : Byte) (s : State) : Out := opAdc ⟨0x71, .adc, .indY zp⟩ s
/-- $75 `ADC zp,X` (R430). -/
def execAdcZpX (zp : Byte) (s : State) : Out := opAdc ⟨0x75, .adc, .zpX zp⟩ s
/-- $79 `ADC w,Y` (R430). -/
def execAdcAbsY (w : Word) (s : State) : Out := opAdc ⟨0x79, .adc, .absY w⟩ s
/-- $7D `ADC w,X` (R430). -/
def execAdcAbsX (w : Word) (s : State) : Out := opAdc ⟨0x7D, .adc, .absX w⟩ s
/-- $E1 `SBC (zp,X)` (R431). -/
def execSbcIndX (zp : Byte) (s : State) : Out := opSbc ⟨0xE1, .sbc, .indX zp⟩ s
/-- $E5 `SBC zp` (R431). -/
def execSbcZp (zp : Byte) (s : State) : Out := opSbc ⟨0xE5, .sbc, .zp zp⟩ s
/-- $E9 `SBC #v` (R431). -/
def execSbcImm (v : Byte) (s : State) : Out := opSbc ⟨0xE9, .sbc, .imm v⟩ s
/-- $EB `SBC #v` (R431). -/
def execSbcImmEB (v : Byte) (s : State) : Out := opSbc ⟨0xEB, .sbc, .imm v⟩ s
/-- $ED `SBC w` (R431). -/
def execSbcAbs (w : Word) (s : State) : Out := opSbc ⟨0xED, .sbc, .abs w⟩ s
/-- $F1 `SBC (zp),Y` (R431). -/
def execSbcIndY (zp : Byte) (s : State) : Out := opSbc ⟨0xF1, .sbc, .indY zp⟩ s
/-- $F5 `SBC zp,X` (R431). -/
def execSbcZpX (zp : Byte) (s : State) : Out := opSbc ⟨0xF5, .sbc, .zpX zp⟩ s
/-- $F9 `SBC w,Y` (R431). -/
def execSbcAbsY (w : Word) (s : State) : Out := opSbc ⟨0xF9, .sbc, .absY w⟩ s
/-- $FD `SBC w,X` (R431). -/
def execSbcAbsX (w : Word) (s : State) : Out := opSbc ⟨0xFD, .sbc, .absX w⟩ s
/-- $21 `AND (zp,X)` (R432). -/
def execAndIndX (zp : Byte) (s : State) : Out := opAnd ⟨0x21, .and, .indX zp⟩ s
/-- $25 `AND zp` (R432). -/
def execAndZp (zp : Byte) (s : State) : Out := opAnd ⟨0x25, .and, .zp zp⟩ s
/-- $29 `AND #v` (R432). -/
def execAndImm (v : Byte) (s : State) : Out := opAnd ⟨0x29, .and, .imm v⟩ s
/-- $2D `AND w` (R432). -/
def execAndAbs (w : Word) (s : State) : Out := opAnd ⟨0x2D, .and, .abs w⟩ s
/-- $31 `AND (zp),Y` (R432). -/
def execAndIndY (zp : Byte) (s : State) : Out := opAnd ⟨0x31, .and, .indY zp⟩ s
/-- $35 `AND zp,X` (R432). -/
def execAndZpX (zp : Byte) (s : State) : Out := opAnd ⟨0x35, .and, .zpX zp⟩ s
/-- $39 `AND w,Y` (R432). -/
def execAndAbsY (w : Word) (s : State) : Out := opAnd ⟨0x39, .and, .absY w⟩ s
/-- $3D `AND w,X` (R432). -/
def execAndAbsX (w : Word) (s : State) : Out := opAnd ⟨0x3D, .and, .absX w⟩ s
/-- $01 `ORA (zp,X)` (R433). -/
def execOraIndX (zp : Byte) (s : State) : Out := opOra ⟨0x01, .ora, .indX zp⟩ s
/-- $05 `ORA zp` (R433). -/
def execOraZp (zp : Byte) (s : State) : Out := opOra ⟨0x05, .ora, .zp zp⟩ s
/-- $09 `ORA #v` (R433). -/
def execOraImm (v : Byte) (s : State) : Out := opOra ⟨0x09, .ora, .imm v⟩ s
/-- $0D `ORA w` (R433). -/
def execOraAbs (w : Word) (s : State) : Out := opOra ⟨0x0D, .ora, .abs w⟩ s
/-- $11 `ORA (zp),Y` (R433). -/
def execOraIndY (zp : Byte) (s : State) : Out := opOra ⟨0x11, .ora, .indY zp⟩ s
/-- $15 `ORA zp,X` (R433). -/
def execOraZpX (zp : Byte) (s : State) : Out := opOra ⟨0x15, .ora, .zpX zp⟩ s
/-- $19 `ORA w,Y` (R433). -/
def execOraAbsY (w : Word) (s : State) : Out := opOra ⟨0x19, .ora, .absY w⟩ s
/-- $1D `ORA w,X` (R433). -/
def execOraAbsX (w : Word) (s : State) : Out := opOra ⟨0x1D, .ora, .absX w⟩ s
/-- $41 `EOR (zp,X)` (R434). -/
def execEorIndX (zp : Byte) (s : State) : Out := opEor ⟨0x41, .eor, .indX zp⟩ s
/-- $45 `EOR zp` (R434). -/
def execEorZp (zp : Byte) (s : State) : Out := opEor ⟨0x45, .eor, .zp zp⟩ s
/-- $49 `EOR #v` (R434). -/
def execEorImm (v : Byte) (s : State) : Out := opEor ⟨0x49, .eor, .imm v⟩ s
/-- $4D `EOR w` (R434). -/
def execEorAbs (w : Word) (s : State) : Out := opEor ⟨0x4D, .eor, .abs w⟩ s
/-- $51 `EOR (zp),Y` (R434). -/
def execEorIndY (zp : Byte) (s : State) : Out := opEor ⟨0x51, .eor, .indY zp⟩ s
/-- $55 `EOR zp,X` (R434). -/
def execEorZpX (zp : Byte) (s : State) : Out := opEor ⟨0x55, .eor, .zpX zp⟩ s
/-- $59 `EOR w,Y` (R434). -/
def execEorAbsY (w : Word) (s : State) : Out := opEor ⟨0x59, .eor, .absY w⟩ s
/-- $5D `EOR w,X` (R434). -/
def execEorAbsX (w : Word) (s : State) : Out := opEor ⟨0x5D, .eor, .absX w⟩ s
/-- $24 `BIT zp` (R438). -/
def execBitZp (zp : Byte) (s : State) : Out := opBit ⟨0x24, .bit, .zp zp⟩ s
/-- $2C `BIT w` (R438). -/
def execBitAbs (w : Word) (s : State) : Out := opBit ⟨0x2C, .bit, .abs w⟩ s
/-- $C1 `CMP (zp,X)` (R435). -/
def execCmpIndX (zp : Byte) (s : State) : Out := opCmp ⟨0xC1, .cmp, .indX zp⟩ s
/-- $C5 `CMP zp` (R435). -/
def execCmpZp (zp : Byte) (s : State) : Out := opCmp ⟨0xC5, .cmp, .zp zp⟩ s
/-- $C9 `CMP #v` (R435). -/
def execCmpImm (v : Byte) (s : State) : Out := opCmp ⟨0xC9, .cmp, .imm v⟩ s
/-- $CD `CMP w` (R435). -/
def execCmpAbs (w : Word) (s : State) : Out := opCmp ⟨0xCD, .cmp, .abs w⟩ s
/-- $D1 `CMP (zp),Y` (R435). -/
def execCmpIndY (zp : Byte) (s : State) : Out := opCmp ⟨0xD1, .cmp, .indY zp⟩ s
/-- $D5 `CMP zp,X` (R435). -/
def execCmpZpX (zp : Byte) (s : State) : Out := opCmp ⟨0xD5, .cmp, .zpX zp⟩ s
/-- $D9 `CMP w,Y` (R435). -/
def execCmpAbsY (w : Word) (s : State) : Out := opCmp ⟨0xD9, .cmp, .absY w⟩ s
/-- $DD `CMP w,X` (R435). -/
def execCmpAbsX (w : Word) (s : State) : Out := opCmp ⟨0xDD, .cmp, .absX w⟩ s
/-- $E0 `CPX #v` (R436). -/
def execCpxImm (v : Byte) (s : State) : Out := opCpx ⟨0xE0, .cpx, .imm v⟩ s
/-- $E4 `CPX zp` (R436). -/
def execCpxZp (zp : Byte) (s : State) : Out := opCpx ⟨0xE4, .cpx, .zp zp⟩ s
/-- $EC `CPX w` (R436). -/
def execCpxAbs (w : Word) (s : State) : Out := opCpx ⟨0xEC, .cpx, .abs w⟩ s
/-- $C0 `CPY #v` (R437). -/
def execCpyImm (v : Byte) (s : State) : Out := opCpy ⟨0xC0, .cpy, .imm v⟩ s
/-- $C4 `CPY zp` (R437). -/
def execCpyZp (zp : Byte) (s : State) : Out := opCpy ⟨0xC4, .cpy, .zp zp⟩ s
/-- $CC `CPY w` (R437). -/
def execCpyAbs (w : Word) (s : State) : Out := opCpy ⟨0xCC, .cpy, .abs w⟩ s
/-- $E6 `INC zp` (R439). -/
def execIncZp (zp : Byte) (s : State) : Out := opInc ⟨0xE6, .inc, .zp zp⟩ s
/-- $EE `INC w` (R439). -/
def execIncAbs (w : Word) (s : State) : Out := opInc ⟨0xEE, .inc, .abs w⟩ s
/-- $F6 `INC zp,X` (R439). -/
def execIncZpX (zp : Byte) (s : State) : Out := opInc ⟨0xF6, .inc, .zpX zp⟩ s
/-- $FE `INC w,X` (R439). -/
def execIncAbsX (w : Word) (s : State) : Out := opInc ⟨0xFE, .inc, .absX w⟩ s
/-- $C6 `DEC zp` (R440). -/
def execDecZp (zp : Byte) (s : State) : Out := opDec ⟨0xC6, .dec, .zp zp⟩ s
/-- $CE `DEC w` (R440). -/
def execDecAbs (w : Word) (s : State) : Out := opDec ⟨0xCE, .dec, .abs w⟩ s
/-- $D6 `DEC zp,X` (R440). -/
def execDecZpX (zp : Byte) (s : State) : Out := opDec ⟨0xD6, .dec, .zpX zp⟩ s
/-- $DE `DEC w,X` (R440). -/
def execDecAbsX (w : Word) (s : State) : Out := opDec ⟨0xDE, .dec, .absX w⟩ s
/-- $E8 `INX` (R441). -/
def execInx (s : State) : Out := opInx ⟨0xE8, .inx, .implied⟩ s
/-- $C8 `INY` (R442). -/
def execIny (s : State) : Out := opIny ⟨0xC8, .iny, .implied⟩ s
/-- $CA `DEX` (R443). -/
def execDex (s : State) : Out := opDex ⟨0xCA, .dex, .implied⟩ s
/-- $88 `DEY` (R444). -/
def execDey (s : State) : Out := opDey ⟨0x88, .dey, .implied⟩ s

end Sys2Proof.Machine
end

