-- ==== Sys2Proof/Machine/Control.lean ====
section
/-! DEFINITION. Branches, jumps, subroutines, return from interrupt and BRK (43_control_flow.md R490 to R503): the meaning
of each mnemonic over any row, then one definition per row. -/

namespace Sys2Proof.Machine

/-- BCC: C = 0 (R491). -/
def opBcc (r : Row) (s : State) : Out := branchInstr r (fun p => !p.c) s

/-- BCS: C = 1 (R492). -/
def opBcs (r : Row) (s : State) : Out := branchInstr r (fun p => p.c) s

/-- BEQ: Z = 1 (R493). -/
def opBeq (r : Row) (s : State) : Out := branchInstr r (fun p => p.z) s

/-- BNE: Z = 0 (R494). -/
def opBne (r : Row) (s : State) : Out := branchInstr r (fun p => !p.z) s

/-- BMI: N = 1 (R495). -/
def opBmi (r : Row) (s : State) : Out := branchInstr r (fun p => p.n) s

/-- BPL: N = 0 (R496). -/
def opBpl (r : Row) (s : State) : Out := branchInstr r (fun p => !p.n) s

/-- BVC: V = 0 (R497). -/
def opBvc (r : Row) (s : State) : Out := branchInstr r (fun p => !p.v) s

/-- BVS: V = 1 (R498). -/
def opBvs (r : Row) (s : State) : Out := branchInstr r (fun p => p.v) s

/-- JMP: PC ← payload (R499). -/
def opJmp (r : Row) (s : State) : Out :=
  let a := resolve r.operand s
  .next (finish r a.extra false (a.state.setPc a.payload))

/-- JSR: push the address of its last byte, high then low; PC ← payload (R500). -/
def opJsr (r : Row) (s : State) : Out :=
  let a := resolve r.operand s
  .next (finish r a.extra false ((pushWord (a.state.cpu.pc - 1) a.state).setPc a.payload))

/-- RTS: pop low then high, PC ← the word plus 1 (R501). -/
def opRts (r : Row) (s : State) : Out :=
  let t := popWord s
  .next (finish r false false (t.2.setPc (t.1 + 1)))

/-- RTI: the return from an interrupt (R502). -/
def opRti (r : Row) (s : State) : Out := .next (finish r false false (returnFromInterrupt s))

/-- BRK: PC one past the byte after the opcode, then the common entry with B set, through the IRQ vector (R503). -/
def opBrk (r : Row) (s : State) : Out :=
  .next (finish r false false (enterInterrupt true irqVector (s.setPc (s.cpu.pc + 1))))

/-! ### The rows of the opcode table -/

/-- $90 `BCC off` (R491). -/
def execBcc (off : Byte) (s : State) : Out := opBcc ⟨0x90, .bcc, .rel off⟩ s
/-- $B0 `BCS off` (R492). -/
def execBcs (off : Byte) (s : State) : Out := opBcs ⟨0xB0, .bcs, .rel off⟩ s
/-- $F0 `BEQ off` (R493). -/
def execBeq (off : Byte) (s : State) : Out := opBeq ⟨0xF0, .beq, .rel off⟩ s
/-- $D0 `BNE off` (R494). -/
def execBne (off : Byte) (s : State) : Out := opBne ⟨0xD0, .bne, .rel off⟩ s
/-- $30 `BMI off` (R495). -/
def execBmi (off : Byte) (s : State) : Out := opBmi ⟨0x30, .bmi, .rel off⟩ s
/-- $10 `BPL off` (R496). -/
def execBpl (off : Byte) (s : State) : Out := opBpl ⟨0x10, .bpl, .rel off⟩ s
/-- $50 `BVC off` (R497). -/
def execBvc (off : Byte) (s : State) : Out := opBvc ⟨0x50, .bvc, .rel off⟩ s
/-- $70 `BVS off` (R498). -/
def execBvs (off : Byte) (s : State) : Out := opBvs ⟨0x70, .bvs, .rel off⟩ s
/-- $4C `JMP w` (R499). -/
def execJmpAbs (w : Word) (s : State) : Out := opJmp ⟨0x4C, .jmp, .abs w⟩ s
/-- $6C `JMP (w)` (R499). -/
def execJmpInd (w : Word) (s : State) : Out := opJmp ⟨0x6C, .jmp, .ind w⟩ s
/-- $20 `JSR w` (R500). -/
def execJsr (w : Word) (s : State) : Out := opJsr ⟨0x20, .jsr, .abs w⟩ s
/-- $60 `RTS` (R501). -/
def execRts (s : State) : Out := opRts ⟨0x60, .rts, .implied⟩ s
/-- $40 `RTI` (R502). -/
def execRti (s : State) : Out := opRti ⟨0x40, .rti, .implied⟩ s
/-- $00 `BRK` (R503). -/
def execBrk (s : State) : Out := opBrk ⟨0x00, .brk, .implied⟩ s

end Sys2Proof.Machine
end

