-- ==== Sys2Proof/Machine/LoadStore.lean ====
section
/-! DEFINITION. Load, store and transfer instructions (40_load_store_transfer.md R400 to R413): the meaning of each
mnemonic over any row, then one definition per row. -/

namespace Sys2Proof.Machine

/-- LDA: A ← operand; N, Z (R400). -/
def opLda (r : Row) (s : State) : Out := readInstr r (fun v c => { c with a := v, p := setNZ v c.p }) s

/-- LDX: X ← operand; N, Z (R401). -/
def opLdx (r : Row) (s : State) : Out := readInstr r (fun v c => { c with x := v, p := setNZ v c.p }) s

/-- LDY: Y ← operand; N, Z (R402). -/
def opLdy (r : Row) (s : State) : Out := readInstr r (fun v c => { c with y := v, p := setNZ v c.p }) s

/-- LAX: A and X ← operand, read once; N, Z (R412). -/
def opLax (r : Row) (s : State) : Out := readInstr r (fun v c => { c with a := v, x := v, p := setNZ v c.p }) s

/-- STA: A to the payload; no flags (R403). -/
def opSta (r : Row) (s : State) : Out := storeInstr r (fun c => c.a) s

/-- STX: X to the payload (R404). -/
def opStx (r : Row) (s : State) : Out := storeInstr r (fun c => c.x) s

/-- STY: Y to the payload (R405). -/
def opSty (r : Row) (s : State) : Out := storeInstr r (fun c => c.y) s

/-- SAX: A AND X to the payload (R413). -/
def opSax (r : Row) (s : State) : Out := storeInstr r (fun c => c.a &&& c.x) s

/-- TAX: X ← A; N, Z (R406). -/
def opTax (r : Row) (s : State) : Out := impliedInstr r (fun c => { c with x := c.a, p := setNZ c.a c.p }) s

/-- TAY: Y ← A; N, Z (R407). -/
def opTay (r : Row) (s : State) : Out := impliedInstr r (fun c => { c with y := c.a, p := setNZ c.a c.p }) s

/-- TXA: A ← X; N, Z (R408). -/
def opTxa (r : Row) (s : State) : Out := impliedInstr r (fun c => { c with a := c.x, p := setNZ c.x c.p }) s

/-- TYA: A ← Y; N, Z (R409). -/
def opTya (r : Row) (s : State) : Out := impliedInstr r (fun c => { c with a := c.y, p := setNZ c.y c.p }) s

/-- TSX: X ← SP; N, Z (R410). -/
def opTsx (r : Row) (s : State) : Out := impliedInstr r (fun c => { c with x := c.sp, p := setNZ c.sp c.p }) s

/-- TXS: SP ← X; no flags (R411). -/
def opTxs (r : Row) (s : State) : Out := impliedInstr r (fun c => { c with sp := c.x }) s

/-! ### The rows of the opcode table -/

/-- $A1 `LDA (zp,X)` (R400). -/
def execLdaIndX (zp : Byte) (s : State) : Out := opLda ⟨0xA1, .lda, .indX zp⟩ s
/-- $A5 `LDA zp` (R400). -/
def execLdaZp (zp : Byte) (s : State) : Out := opLda ⟨0xA5, .lda, .zp zp⟩ s
/-- $A9 `LDA #v` (R400). -/
def execLdaImm (v : Byte) (s : State) : Out := opLda ⟨0xA9, .lda, .imm v⟩ s
/-- $AD `LDA w` (R400). -/
def execLdaAbs (w : Word) (s : State) : Out := opLda ⟨0xAD, .lda, .abs w⟩ s
/-- $B1 `LDA (zp),Y` (R400). -/
def execLdaIndY (zp : Byte) (s : State) : Out := opLda ⟨0xB1, .lda, .indY zp⟩ s
/-- $B5 `LDA zp,X` (R400). -/
def execLdaZpX (zp : Byte) (s : State) : Out := opLda ⟨0xB5, .lda, .zpX zp⟩ s
/-- $B9 `LDA w,Y` (R400). -/
def execLdaAbsY (w : Word) (s : State) : Out := opLda ⟨0xB9, .lda, .absY w⟩ s
/-- $BD `LDA w,X` (R400). -/
def execLdaAbsX (w : Word) (s : State) : Out := opLda ⟨0xBD, .lda, .absX w⟩ s
/-- $A2 `LDX #v` (R401). -/
def execLdxImm (v : Byte) (s : State) : Out := opLdx ⟨0xA2, .ldx, .imm v⟩ s
/-- $A6 `LDX zp` (R401). -/
def execLdxZp (zp : Byte) (s : State) : Out := opLdx ⟨0xA6, .ldx, .zp zp⟩ s
/-- $AE `LDX w` (R401). -/
def execLdxAbs (w : Word) (s : State) : Out := opLdx ⟨0xAE, .ldx, .abs w⟩ s
/-- $B6 `LDX zp,Y` (R401). -/
def execLdxZpY (zp : Byte) (s : State) : Out := opLdx ⟨0xB6, .ldx, .zpY zp⟩ s
/-- $BE `LDX w,Y` (R401). -/
def execLdxAbsY (w : Word) (s : State) : Out := opLdx ⟨0xBE, .ldx, .absY w⟩ s
/-- $A0 `LDY #v` (R402). -/
def execLdyImm (v : Byte) (s : State) : Out := opLdy ⟨0xA0, .ldy, .imm v⟩ s
/-- $A4 `LDY zp` (R402). -/
def execLdyZp (zp : Byte) (s : State) : Out := opLdy ⟨0xA4, .ldy, .zp zp⟩ s
/-- $AC `LDY w` (R402). -/
def execLdyAbs (w : Word) (s : State) : Out := opLdy ⟨0xAC, .ldy, .abs w⟩ s
/-- $B4 `LDY zp,X` (R402). -/
def execLdyZpX (zp : Byte) (s : State) : Out := opLdy ⟨0xB4, .ldy, .zpX zp⟩ s
/-- $BC `LDY w,X` (R402). -/
def execLdyAbsX (w : Word) (s : State) : Out := opLdy ⟨0xBC, .ldy, .absX w⟩ s
/-- $A3 `LAX (zp,X)` (R412). -/
def execLaxIndX (zp : Byte) (s : State) : Out := opLax ⟨0xA3, .lax, .indX zp⟩ s
/-- $A7 `LAX zp` (R412). -/
def execLaxZp (zp : Byte) (s : State) : Out := opLax ⟨0xA7, .lax, .zp zp⟩ s
/-- $AF `LAX w` (R412). -/
def execLaxAbs (w : Word) (s : State) : Out := opLax ⟨0xAF, .lax, .abs w⟩ s
/-- $B3 `LAX (zp),Y` (R412). -/
def execLaxIndY (zp : Byte) (s : State) : Out := opLax ⟨0xB3, .lax, .indY zp⟩ s
/-- $B7 `LAX zp,Y` (R412). -/
def execLaxZpY (zp : Byte) (s : State) : Out := opLax ⟨0xB7, .lax, .zpY zp⟩ s
/-- $BF `LAX w,Y` (R412). -/
def execLaxAbsY (w : Word) (s : State) : Out := opLax ⟨0xBF, .lax, .absY w⟩ s
/-- $81 `STA (zp,X)` (R403). -/
def execStaIndX (zp : Byte) (s : State) : Out := opSta ⟨0x81, .sta, .indX zp⟩ s
/-- $85 `STA zp` (R403). -/
def execStaZp (zp : Byte) (s : State) : Out := opSta ⟨0x85, .sta, .zp zp⟩ s
/-- $8D `STA w` (R403). -/
def execStaAbs (w : Word) (s : State) : Out := opSta ⟨0x8D, .sta, .abs w⟩ s
/-- $91 `STA (zp),Y` (R403). -/
def execStaIndY (zp : Byte) (s : State) : Out := opSta ⟨0x91, .sta, .indY zp⟩ s
/-- $95 `STA zp,X` (R403). -/
def execStaZpX (zp : Byte) (s : State) : Out := opSta ⟨0x95, .sta, .zpX zp⟩ s
/-- $99 `STA w,Y` (R403). -/
def execStaAbsY (w : Word) (s : State) : Out := opSta ⟨0x99, .sta, .absY w⟩ s
/-- $9D `STA w,X` (R403). -/
def execStaAbsX (w : Word) (s : State) : Out := opSta ⟨0x9D, .sta, .absX w⟩ s
/-- $86 `STX zp` (R404). -/
def execStxZp (zp : Byte) (s : State) : Out := opStx ⟨0x86, .stx, .zp zp⟩ s
/-- $8E `STX w` (R404). -/
def execStxAbs (w : Word) (s : State) : Out := opStx ⟨0x8E, .stx, .abs w⟩ s
/-- $96 `STX zp,Y` (R404). -/
def execStxZpY (zp : Byte) (s : State) : Out := opStx ⟨0x96, .stx, .zpY zp⟩ s
/-- $84 `STY zp` (R405). -/
def execStyZp (zp : Byte) (s : State) : Out := opSty ⟨0x84, .sty, .zp zp⟩ s
/-- $8C `STY w` (R405). -/
def execStyAbs (w : Word) (s : State) : Out := opSty ⟨0x8C, .sty, .abs w⟩ s
/-- $94 `STY zp,X` (R405). -/
def execStyZpX (zp : Byte) (s : State) : Out := opSty ⟨0x94, .sty, .zpX zp⟩ s
/-- $83 `SAX (zp,X)` (R413). -/
def execSaxIndX (zp : Byte) (s : State) : Out := opSax ⟨0x83, .sax, .indX zp⟩ s
/-- $87 `SAX zp` (R413). -/
def execSaxZp (zp : Byte) (s : State) : Out := opSax ⟨0x87, .sax, .zp zp⟩ s
/-- $8F `SAX w` (R413). -/
def execSaxAbs (w : Word) (s : State) : Out := opSax ⟨0x8F, .sax, .abs w⟩ s
/-- $97 `SAX zp,Y` (R413). -/
def execSaxZpY (zp : Byte) (s : State) : Out := opSax ⟨0x97, .sax, .zpY zp⟩ s
/-- $AA `TAX` (R406). -/
def execTax (s : State) : Out := opTax ⟨0xAA, .tax, .implied⟩ s
/-- $A8 `TAY` (R407). -/
def execTay (s : State) : Out := opTay ⟨0xA8, .tay, .implied⟩ s
/-- $8A `TXA` (R408). -/
def execTxa (s : State) : Out := opTxa ⟨0x8A, .txa, .implied⟩ s
/-- $98 `TYA` (R409). -/
def execTya (s : State) : Out := opTya ⟨0x98, .tya, .implied⟩ s
/-- $BA `TSX` (R410). -/
def execTsx (s : State) : Out := opTsx ⟨0xBA, .tsx, .implied⟩ s
/-- $9A `TXS` (R411). -/
def execTxs (s : State) : Out := opTxs ⟨0x9A, .txs, .implied⟩ s

end Sys2Proof.Machine
end

