-- ==== Sys2Proof/Machine/Shift.lean ====
section
/-! DEFINITION. Shifts, rotates and the unofficial read-modify-write compositions (42_shift_rotate_rmw.md R460 to R469):
the meaning of each mnemonic over any row, then one definition per row. -/

namespace Sys2Proof.Machine

/-- ASL on A or memory (R460). -/
def opAsl (r : Row) (s : State) : Out := rmwInstr r aslOp (fun _ c => c) s

/-- LSR on A or memory (R461). -/
def opLsr (r : Row) (s : State) : Out := rmwInstr r lsrOp (fun _ c => c) s

/-- ROL on A or memory (R462). -/
def opRol (r : Row) (s : State) : Out := rmwInstr r rolOp (fun _ c => c) s

/-- ROR on A or memory (R463). -/
def opRor (r : Row) (s : State) : Out := rmwInstr r rorOp (fun _ c => c) s

/-- SLO: ASL then ORA with the written byte (R464). -/
def opSlo (r : Row) (s : State) : Out := rmwInstr r aslOp oraCore s

/-- RLA: ROL then AND with the written byte (R465). -/
def opRla (r : Row) (s : State) : Out := rmwInstr r rolOp andCore s

/-- SRE: LSR then EOR with the written byte (R466). -/
def opSre (r : Row) (s : State) : Out := rmwInstr r lsrOp eorCore s

/-- RRA: ROR then ADC with the written byte and the carry the rotate left (R467). -/
def opRra (r : Row) (s : State) : Out := rmwInstr r rorOp adcCore s

/-- DCP: DEC then CMP with the written byte; A unchanged (R468). -/
def opDcp (r : Row) (s : State) : Out :=
  rmwInstr r decOp (fun m c => { c with p := compareFlags c.a m c.p }) s

/-- ISB: INC then SBC with the written byte (R469). -/
def opIsb (r : Row) (s : State) : Out := rmwInstr r incOp sbcCore s

/-! ### The rows of the opcode table -/

/-- $06 `ASL zp` (R460). -/
def execAslZp (zp : Byte) (s : State) : Out := opAsl ⟨0x06, .asl, .zp zp⟩ s
/-- $0A `ASL A` (R460). -/
def execAslAcc (s : State) : Out := opAsl ⟨0x0A, .asl, .accumulator⟩ s
/-- $0E `ASL w` (R460). -/
def execAslAbs (w : Word) (s : State) : Out := opAsl ⟨0x0E, .asl, .abs w⟩ s
/-- $16 `ASL zp,X` (R460). -/
def execAslZpX (zp : Byte) (s : State) : Out := opAsl ⟨0x16, .asl, .zpX zp⟩ s
/-- $1E `ASL w,X` (R460). -/
def execAslAbsX (w : Word) (s : State) : Out := opAsl ⟨0x1E, .asl, .absX w⟩ s
/-- $46 `LSR zp` (R461). -/
def execLsrZp (zp : Byte) (s : State) : Out := opLsr ⟨0x46, .lsr, .zp zp⟩ s
/-- $4A `LSR A` (R461). -/
def execLsrAcc (s : State) : Out := opLsr ⟨0x4A, .lsr, .accumulator⟩ s
/-- $4E `LSR w` (R461). -/
def execLsrAbs (w : Word) (s : State) : Out := opLsr ⟨0x4E, .lsr, .abs w⟩ s
/-- $56 `LSR zp,X` (R461). -/
def execLsrZpX (zp : Byte) (s : State) : Out := opLsr ⟨0x56, .lsr, .zpX zp⟩ s
/-- $5E `LSR w,X` (R461). -/
def execLsrAbsX (w : Word) (s : State) : Out := opLsr ⟨0x5E, .lsr, .absX w⟩ s
/-- $26 `ROL zp` (R462). -/
def execRolZp (zp : Byte) (s : State) : Out := opRol ⟨0x26, .rol, .zp zp⟩ s
/-- $2A `ROL A` (R462). -/
def execRolAcc (s : State) : Out := opRol ⟨0x2A, .rol, .accumulator⟩ s
/-- $2E `ROL w` (R462). -/
def execRolAbs (w : Word) (s : State) : Out := opRol ⟨0x2E, .rol, .abs w⟩ s
/-- $36 `ROL zp,X` (R462). -/
def execRolZpX (zp : Byte) (s : State) : Out := opRol ⟨0x36, .rol, .zpX zp⟩ s
/-- $3E `ROL w,X` (R462). -/
def execRolAbsX (w : Word) (s : State) : Out := opRol ⟨0x3E, .rol, .absX w⟩ s
/-- $66 `ROR zp` (R463). -/
def execRorZp (zp : Byte) (s : State) : Out := opRor ⟨0x66, .ror, .zp zp⟩ s
/-- $6A `ROR A` (R463). -/
def execRorAcc (s : State) : Out := opRor ⟨0x6A, .ror, .accumulator⟩ s
/-- $6E `ROR w` (R463). -/
def execRorAbs (w : Word) (s : State) : Out := opRor ⟨0x6E, .ror, .abs w⟩ s
/-- $76 `ROR zp,X` (R463). -/
def execRorZpX (zp : Byte) (s : State) : Out := opRor ⟨0x76, .ror, .zpX zp⟩ s
/-- $7E `ROR w,X` (R463). -/
def execRorAbsX (w : Word) (s : State) : Out := opRor ⟨0x7E, .ror, .absX w⟩ s
/-- $03 `SLO (zp,X)` (R464). -/
def execSloIndX (zp : Byte) (s : State) : Out := opSlo ⟨0x03, .slo, .indX zp⟩ s
/-- $07 `SLO zp` (R464). -/
def execSloZp (zp : Byte) (s : State) : Out := opSlo ⟨0x07, .slo, .zp zp⟩ s
/-- $0F `SLO w` (R464). -/
def execSloAbs (w : Word) (s : State) : Out := opSlo ⟨0x0F, .slo, .abs w⟩ s
/-- $13 `SLO (zp),Y` (R464). -/
def execSloIndY (zp : Byte) (s : State) : Out := opSlo ⟨0x13, .slo, .indY zp⟩ s
/-- $17 `SLO zp,X` (R464). -/
def execSloZpX (zp : Byte) (s : State) : Out := opSlo ⟨0x17, .slo, .zpX zp⟩ s
/-- $1B `SLO w,Y` (R464). -/
def execSloAbsY (w : Word) (s : State) : Out := opSlo ⟨0x1B, .slo, .absY w⟩ s
/-- $1F `SLO w,X` (R464). -/
def execSloAbsX (w : Word) (s : State) : Out := opSlo ⟨0x1F, .slo, .absX w⟩ s
/-- $23 `RLA (zp,X)` (R465). -/
def execRlaIndX (zp : Byte) (s : State) : Out := opRla ⟨0x23, .rla, .indX zp⟩ s
/-- $27 `RLA zp` (R465). -/
def execRlaZp (zp : Byte) (s : State) : Out := opRla ⟨0x27, .rla, .zp zp⟩ s
/-- $2F `RLA w` (R465). -/
def execRlaAbs (w : Word) (s : State) : Out := opRla ⟨0x2F, .rla, .abs w⟩ s
/-- $33 `RLA (zp),Y` (R465). -/
def execRlaIndY (zp : Byte) (s : State) : Out := opRla ⟨0x33, .rla, .indY zp⟩ s
/-- $37 `RLA zp,X` (R465). -/
def execRlaZpX (zp : Byte) (s : State) : Out := opRla ⟨0x37, .rla, .zpX zp⟩ s
/-- $3B `RLA w,Y` (R465). -/
def execRlaAbsY (w : Word) (s : State) : Out := opRla ⟨0x3B, .rla, .absY w⟩ s
/-- $3F `RLA w,X` (R465). -/
def execRlaAbsX (w : Word) (s : State) : Out := opRla ⟨0x3F, .rla, .absX w⟩ s
/-- $43 `SRE (zp,X)` (R466). -/
def execSreIndX (zp : Byte) (s : State) : Out := opSre ⟨0x43, .sre, .indX zp⟩ s
/-- $47 `SRE zp` (R466). -/
def execSreZp (zp : Byte) (s : State) : Out := opSre ⟨0x47, .sre, .zp zp⟩ s
/-- $4F `SRE w` (R466). -/
def execSreAbs (w : Word) (s : State) : Out := opSre ⟨0x4F, .sre, .abs w⟩ s
/-- $53 `SRE (zp),Y` (R466). -/
def execSreIndY (zp : Byte) (s : State) : Out := opSre ⟨0x53, .sre, .indY zp⟩ s
/-- $57 `SRE zp,X` (R466). -/
def execSreZpX (zp : Byte) (s : State) : Out := opSre ⟨0x57, .sre, .zpX zp⟩ s
/-- $5B `SRE w,Y` (R466). -/
def execSreAbsY (w : Word) (s : State) : Out := opSre ⟨0x5B, .sre, .absY w⟩ s
/-- $5F `SRE w,X` (R466). -/
def execSreAbsX (w : Word) (s : State) : Out := opSre ⟨0x5F, .sre, .absX w⟩ s
/-- $63 `RRA (zp,X)` (R467). -/
def execRraIndX (zp : Byte) (s : State) : Out := opRra ⟨0x63, .rra, .indX zp⟩ s
/-- $67 `RRA zp` (R467). -/
def execRraZp (zp : Byte) (s : State) : Out := opRra ⟨0x67, .rra, .zp zp⟩ s
/-- $6F `RRA w` (R467). -/
def execRraAbs (w : Word) (s : State) : Out := opRra ⟨0x6F, .rra, .abs w⟩ s
/-- $73 `RRA (zp),Y` (R467). -/
def execRraIndY (zp : Byte) (s : State) : Out := opRra ⟨0x73, .rra, .indY zp⟩ s
/-- $77 `RRA zp,X` (R467). -/
def execRraZpX (zp : Byte) (s : State) : Out := opRra ⟨0x77, .rra, .zpX zp⟩ s
/-- $7B `RRA w,Y` (R467). -/
def execRraAbsY (w : Word) (s : State) : Out := opRra ⟨0x7B, .rra, .absY w⟩ s
/-- $7F `RRA w,X` (R467). -/
def execRraAbsX (w : Word) (s : State) : Out := opRra ⟨0x7F, .rra, .absX w⟩ s
/-- $C3 `DCP (zp,X)` (R468). -/
def execDcpIndX (zp : Byte) (s : State) : Out := opDcp ⟨0xC3, .dcp, .indX zp⟩ s
/-- $C7 `DCP zp` (R468). -/
def execDcpZp (zp : Byte) (s : State) : Out := opDcp ⟨0xC7, .dcp, .zp zp⟩ s
/-- $CF `DCP w` (R468). -/
def execDcpAbs (w : Word) (s : State) : Out := opDcp ⟨0xCF, .dcp, .abs w⟩ s
/-- $D3 `DCP (zp),Y` (R468). -/
def execDcpIndY (zp : Byte) (s : State) : Out := opDcp ⟨0xD3, .dcp, .indY zp⟩ s
/-- $D7 `DCP zp,X` (R468). -/
def execDcpZpX (zp : Byte) (s : State) : Out := opDcp ⟨0xD7, .dcp, .zpX zp⟩ s
/-- $DB `DCP w,Y` (R468). -/
def execDcpAbsY (w : Word) (s : State) : Out := opDcp ⟨0xDB, .dcp, .absY w⟩ s
/-- $DF `DCP w,X` (R468). -/
def execDcpAbsX (w : Word) (s : State) : Out := opDcp ⟨0xDF, .dcp, .absX w⟩ s
/-- $E3 `ISB (zp,X)` (R469). -/
def execIsbIndX (zp : Byte) (s : State) : Out := opIsb ⟨0xE3, .isb, .indX zp⟩ s
/-- $E7 `ISB zp` (R469). -/
def execIsbZp (zp : Byte) (s : State) : Out := opIsb ⟨0xE7, .isb, .zp zp⟩ s
/-- $EF `ISB w` (R469). -/
def execIsbAbs (w : Word) (s : State) : Out := opIsb ⟨0xEF, .isb, .abs w⟩ s
/-- $F3 `ISB (zp),Y` (R469). -/
def execIsbIndY (zp : Byte) (s : State) : Out := opIsb ⟨0xF3, .isb, .indY zp⟩ s
/-- $F7 `ISB zp,X` (R469). -/
def execIsbZpX (zp : Byte) (s : State) : Out := opIsb ⟨0xF7, .isb, .zpX zp⟩ s
/-- $FB `ISB w,Y` (R469). -/
def execIsbAbsY (w : Word) (s : State) : Out := opIsb ⟨0xFB, .isb, .absY w⟩ s
/-- $FF `ISB w,X` (R469). -/
def execIsbAbsX (w : Word) (s : State) : Out := opIsb ⟨0xFF, .isb, .absX w⟩ s

end Sys2Proof.Machine
end

