-- ==== Sys2Proof/Machine/Stack.lean ====
section
/-! DEFINITION. Stack and status-flag instructions, no-operations and the undefined opcodes (44_stack_status_misc.md R520 to
R532): the meaning of each mnemonic over any row, then one definition per row. -/

namespace Sys2Proof.Machine

/-- PHA: push A (R520). -/
def opPha (r : Row) (s : State) : Out := .next (finish r false false (push s.cpu.a s))

/-- PLA: A ← the popped byte; N, Z (R521). -/
def opPla (r : Row) (s : State) : Out :=
  let v := pop s
  .next (finish r false false (v.2.mapCpu fun c => { c with a := v.1, p := setNZ v.1 c.p }))

/-- PHP: push the packed status, B as stored (R522). -/
def opPhp (r : Row) (s : State) : Out := .next (finish r false false (push s.cpu.p.pack s))

/-- PLP: every flag from the popped byte, reserved forced to 1 (R523). -/
def opPlp (r : Row) (s : State) : Out :=
  let v := pop s
  .next (finish r false false (v.2.mapCpu fun c => { c with p := Status.unpack v.1 }))

/-- CLC: C ← 0 (R524). -/
def opClc (r : Row) (s : State) : Out := impliedInstr r (fun c => { c with p := { c.p with c := false } }) s

/-- SEC: C ← 1 (R525). -/
def opSec (r : Row) (s : State) : Out := impliedInstr r (fun c => { c with p := { c.p with c := true } }) s

/-- CLI: I ← 0 (R526). -/
def opCli (r : Row) (s : State) : Out := impliedInstr r (fun c => { c with p := { c.p with i := false } }) s

/-- SEI: I ← 1 (R527). -/
def opSei (r : Row) (s : State) : Out := impliedInstr r (fun c => { c with p := { c.p with i := true } }) s

/-- CLV: V ← 0 (R528). -/
def opClv (r : Row) (s : State) : Out := impliedInstr r (fun c => { c with p := { c.p with v := false } }) s

/-- CLD: D ← 0 (R529). -/
def opCld (r : Row) (s : State) : Out := impliedInstr r (fun c => { c with p := { c.p with d := false } }) s

/-- SED: D ← 1 (R530). -/
def opSed (r : Row) (s : State) : Out := impliedInstr r (fun c => { c with p := { c.p with d := true } }) s

/-- NOP: nothing but the operand fetch and the cost; the memory forms read no data (R531). -/
def opNop (r : Row) (s : State) : Out :=
  let a := resolve r.operand s
  .next (finish r a.extra false a.state)

/-- UNDEF: the fault OpcodeNotImplemented with the opcode's address and byte, PC left one past the opcode (R532). The fault
is recorded in the state, and no later step exists (log 5). -/
def opUndef (r : Row) (s : State) : Out := .next (raiseFault (.opcodeNotImplemented (s.cpu.pc - 1) r.opcode) s)

/-! ### The rows of the opcode table -/

/-- $48 `PHA` (R520). -/
def execPha (s : State) : Out := opPha ⟨0x48, .pha, .implied⟩ s
/-- $68 `PLA` (R521). -/
def execPla (s : State) : Out := opPla ⟨0x68, .pla, .implied⟩ s
/-- $08 `PHP` (R522). -/
def execPhp (s : State) : Out := opPhp ⟨0x08, .php, .implied⟩ s
/-- $28 `PLP` (R523). -/
def execPlp (s : State) : Out := opPlp ⟨0x28, .plp, .implied⟩ s
/-- $18 `CLC` (R524). -/
def execClc (s : State) : Out := opClc ⟨0x18, .clc, .implied⟩ s
/-- $38 `SEC` (R525). -/
def execSec (s : State) : Out := opSec ⟨0x38, .sec, .implied⟩ s
/-- $58 `CLI` (R526). -/
def execCli (s : State) : Out := opCli ⟨0x58, .cli, .implied⟩ s
/-- $78 `SEI` (R527). -/
def execSei (s : State) : Out := opSei ⟨0x78, .sei, .implied⟩ s
/-- $B8 `CLV` (R528). -/
def execClv (s : State) : Out := opClv ⟨0xB8, .clv, .implied⟩ s
/-- $D8 `CLD` (R529). -/
def execCld (s : State) : Out := opCld ⟨0xD8, .cld, .implied⟩ s
/-- $F8 `SED` (R530). -/
def execSed (s : State) : Out := opSed ⟨0xF8, .sed, .implied⟩ s
/-- $04 `NOP zp` (R531). -/
def execNopZp04 (zp : Byte) (s : State) : Out := opNop ⟨0x04, .nop, .zp zp⟩ s
/-- $0C `NOP w` (R531). -/
def execNopAbs0C (w : Word) (s : State) : Out := opNop ⟨0x0C, .nop, .abs w⟩ s
/-- $14 `NOP zp,X` (R531). -/
def execNopZpX14 (zp : Byte) (s : State) : Out := opNop ⟨0x14, .nop, .zpX zp⟩ s
/-- $1A `NOP` (R531). -/
def execNop1A (s : State) : Out := opNop ⟨0x1A, .nop, .implied⟩ s
/-- $1C `NOP w,X` (R531). -/
def execNopAbsX1C (w : Word) (s : State) : Out := opNop ⟨0x1C, .nop, .absX w⟩ s
/-- $34 `NOP zp,X` (R531). -/
def execNopZpX34 (zp : Byte) (s : State) : Out := opNop ⟨0x34, .nop, .zpX zp⟩ s
/-- $3A `NOP` (R531). -/
def execNop3A (s : State) : Out := opNop ⟨0x3A, .nop, .implied⟩ s
/-- $3C `NOP w,X` (R531). -/
def execNopAbsX3C (w : Word) (s : State) : Out := opNop ⟨0x3C, .nop, .absX w⟩ s
/-- $44 `NOP zp` (R531). -/
def execNopZp44 (zp : Byte) (s : State) : Out := opNop ⟨0x44, .nop, .zp zp⟩ s
/-- $54 `NOP zp,X` (R531). -/
def execNopZpX54 (zp : Byte) (s : State) : Out := opNop ⟨0x54, .nop, .zpX zp⟩ s
/-- $5A `NOP` (R531). -/
def execNop5A (s : State) : Out := opNop ⟨0x5A, .nop, .implied⟩ s
/-- $5C `NOP w,X` (R531). -/
def execNopAbsX5C (w : Word) (s : State) : Out := opNop ⟨0x5C, .nop, .absX w⟩ s
/-- $64 `NOP zp` (R531). -/
def execNopZp64 (zp : Byte) (s : State) : Out := opNop ⟨0x64, .nop, .zp zp⟩ s
/-- $74 `NOP zp,X` (R531). -/
def execNopZpX74 (zp : Byte) (s : State) : Out := opNop ⟨0x74, .nop, .zpX zp⟩ s
/-- $7A `NOP` (R531). -/
def execNop7A (s : State) : Out := opNop ⟨0x7A, .nop, .implied⟩ s
/-- $7C `NOP w,X` (R531). -/
def execNopAbsX7C (w : Word) (s : State) : Out := opNop ⟨0x7C, .nop, .absX w⟩ s
/-- $80 `NOP #v` (R531). -/
def execNopImm80 (v : Byte) (s : State) : Out := opNop ⟨0x80, .nop, .imm v⟩ s
/-- $82 `NOP #v` (R531). -/
def execNopImm82 (v : Byte) (s : State) : Out := opNop ⟨0x82, .nop, .imm v⟩ s
/-- $89 `NOP #v` (R531). -/
def execNopImm89 (v : Byte) (s : State) : Out := opNop ⟨0x89, .nop, .imm v⟩ s
/-- $C2 `NOP #v` (R531). -/
def execNopImmC2 (v : Byte) (s : State) : Out := opNop ⟨0xC2, .nop, .imm v⟩ s
/-- $D4 `NOP zp,X` (R531). -/
def execNopZpXD4 (zp : Byte) (s : State) : Out := opNop ⟨0xD4, .nop, .zpX zp⟩ s
/-- $DA `NOP` (R531). -/
def execNopDA (s : State) : Out := opNop ⟨0xDA, .nop, .implied⟩ s
/-- $DC `NOP w,X` (R531). -/
def execNopAbsXDC (w : Word) (s : State) : Out := opNop ⟨0xDC, .nop, .absX w⟩ s
/-- $E2 `NOP #v` (R531). -/
def execNopImmE2 (v : Byte) (s : State) : Out := opNop ⟨0xE2, .nop, .imm v⟩ s
/-- $EA `NOP` (R531). -/
def execNop (s : State) : Out := opNop ⟨0xEA, .nop, .implied⟩ s
/-- $F4 `NOP zp,X` (R531). -/
def execNopZpXF4 (zp : Byte) (s : State) : Out := opNop ⟨0xF4, .nop, .zpX zp⟩ s
/-- $FA `NOP` (R531). -/
def execNopFA (s : State) : Out := opNop ⟨0xFA, .nop, .implied⟩ s
/-- $FC `NOP w,X` (R531). -/
def execNopAbsXFC (w : Word) (s : State) : Out := opNop ⟨0xFC, .nop, .absX w⟩ s
/-- $02 `UNDEF` (R532). -/
def execUndef02 (s : State) : Out := opUndef ⟨0x02, .undef, .none⟩ s
/-- $0B `UNDEF` (R532). -/
def execUndef0B (s : State) : Out := opUndef ⟨0x0B, .undef, .none⟩ s
/-- $12 `UNDEF` (R532). -/
def execUndef12 (s : State) : Out := opUndef ⟨0x12, .undef, .none⟩ s
/-- $22 `UNDEF` (R532). -/
def execUndef22 (s : State) : Out := opUndef ⟨0x22, .undef, .none⟩ s
/-- $2B `UNDEF` (R532). -/
def execUndef2B (s : State) : Out := opUndef ⟨0x2B, .undef, .none⟩ s
/-- $32 `UNDEF` (R532). -/
def execUndef32 (s : State) : Out := opUndef ⟨0x32, .undef, .none⟩ s
/-- $42 `UNDEF` (R532). -/
def execUndef42 (s : State) : Out := opUndef ⟨0x42, .undef, .none⟩ s
/-- $4B `UNDEF` (R532). -/
def execUndef4B (s : State) : Out := opUndef ⟨0x4B, .undef, .none⟩ s
/-- $52 `UNDEF` (R532). -/
def execUndef52 (s : State) : Out := opUndef ⟨0x52, .undef, .none⟩ s
/-- $62 `UNDEF` (R532). -/
def execUndef62 (s : State) : Out := opUndef ⟨0x62, .undef, .none⟩ s
/-- $6B `UNDEF` (R532). -/
def execUndef6B (s : State) : Out := opUndef ⟨0x6B, .undef, .none⟩ s
/-- $72 `UNDEF` (R532). -/
def execUndef72 (s : State) : Out := opUndef ⟨0x72, .undef, .none⟩ s
/-- $8B `UNDEF` (R532). -/
def execUndef8B (s : State) : Out := opUndef ⟨0x8B, .undef, .none⟩ s
/-- $92 `UNDEF` (R532). -/
def execUndef92 (s : State) : Out := opUndef ⟨0x92, .undef, .none⟩ s
/-- $93 `UNDEF` (R532). -/
def execUndef93 (s : State) : Out := opUndef ⟨0x93, .undef, .none⟩ s
/-- $9B `UNDEF` (R532). -/
def execUndef9B (s : State) : Out := opUndef ⟨0x9B, .undef, .none⟩ s
/-- $9C `UNDEF` (R532). -/
def execUndef9C (s : State) : Out := opUndef ⟨0x9C, .undef, .none⟩ s
/-- $9E `UNDEF` (R532). -/
def execUndef9E (s : State) : Out := opUndef ⟨0x9E, .undef, .none⟩ s
/-- $9F `UNDEF` (R532). -/
def execUndef9F (s : State) : Out := opUndef ⟨0x9F, .undef, .none⟩ s
/-- $AB `UNDEF` (R532). -/
def execUndefAB (s : State) : Out := opUndef ⟨0xAB, .undef, .none⟩ s
/-- $B2 `UNDEF` (R532). -/
def execUndefB2 (s : State) : Out := opUndef ⟨0xB2, .undef, .none⟩ s
/-- $BB `UNDEF` (R532). -/
def execUndefBB (s : State) : Out := opUndef ⟨0xBB, .undef, .none⟩ s
/-- $CB `UNDEF` (R532). -/
def execUndefCB (s : State) : Out := opUndef ⟨0xCB, .undef, .none⟩ s
/-- $D2 `UNDEF` (R532). -/
def execUndefD2 (s : State) : Out := opUndef ⟨0xD2, .undef, .none⟩ s
/-- $F2 `UNDEF` (R532). -/
def execUndefF2 (s : State) : Out := opUndef ⟨0xF2, .undef, .none⟩ s

end Sys2Proof.Machine
end

