-- ==== Sys2Proof/Machine/Dispatch.lean ====
section
/-! DEFINITION. The dispatch: one arm per constructor of Instr. -/

namespace Sys2Proof.Machine

/-- The meaning of an instruction, run after its bytes are fetched, with PC at the next instruction (log 7). -/
def exec (i : Instr) (s : State) : Host.Outcome State Fault Refusal :=
  match i with
  | .ldaIndX zp => Sys2Proof.Machine.execLdaIndX zp s
  | .ldaZp zp => Sys2Proof.Machine.execLdaZp zp s
  | .ldaImm v => Sys2Proof.Machine.execLdaImm v s
  | .ldaAbs w => Sys2Proof.Machine.execLdaAbs w s
  | .ldaIndY zp => Sys2Proof.Machine.execLdaIndY zp s
  | .ldaZpX zp => Sys2Proof.Machine.execLdaZpX zp s
  | .ldaAbsY w => Sys2Proof.Machine.execLdaAbsY w s
  | .ldaAbsX w => Sys2Proof.Machine.execLdaAbsX w s
  | .ldxImm v => Sys2Proof.Machine.execLdxImm v s
  | .ldxZp zp => Sys2Proof.Machine.execLdxZp zp s
  | .ldxAbs w => Sys2Proof.Machine.execLdxAbs w s
  | .ldxZpY zp => Sys2Proof.Machine.execLdxZpY zp s
  | .ldxAbsY w => Sys2Proof.Machine.execLdxAbsY w s
  | .ldyImm v => Sys2Proof.Machine.execLdyImm v s
  | .ldyZp zp => Sys2Proof.Machine.execLdyZp zp s
  | .ldyAbs w => Sys2Proof.Machine.execLdyAbs w s
  | .ldyZpX zp => Sys2Proof.Machine.execLdyZpX zp s
  | .ldyAbsX w => Sys2Proof.Machine.execLdyAbsX w s
  | .laxIndX zp => Sys2Proof.Machine.execLaxIndX zp s
  | .laxZp zp => Sys2Proof.Machine.execLaxZp zp s
  | .laxAbs w => Sys2Proof.Machine.execLaxAbs w s
  | .laxIndY zp => Sys2Proof.Machine.execLaxIndY zp s
  | .laxZpY zp => Sys2Proof.Machine.execLaxZpY zp s
  | .laxAbsY w => Sys2Proof.Machine.execLaxAbsY w s
  | .staIndX zp => Sys2Proof.Machine.execStaIndX zp s
  | .staZp zp => Sys2Proof.Machine.execStaZp zp s
  | .staAbs w => Sys2Proof.Machine.execStaAbs w s
  | .staIndY zp => Sys2Proof.Machine.execStaIndY zp s
  | .staZpX zp => Sys2Proof.Machine.execStaZpX zp s
  | .staAbsY w => Sys2Proof.Machine.execStaAbsY w s
  | .staAbsX w => Sys2Proof.Machine.execStaAbsX w s
  | .stxZp zp => Sys2Proof.Machine.execStxZp zp s
  | .stxAbs w => Sys2Proof.Machine.execStxAbs w s
  | .stxZpY zp => Sys2Proof.Machine.execStxZpY zp s
  | .styZp zp => Sys2Proof.Machine.execStyZp zp s
  | .styAbs w => Sys2Proof.Machine.execStyAbs w s
  | .styZpX zp => Sys2Proof.Machine.execStyZpX zp s
  | .saxIndX zp => Sys2Proof.Machine.execSaxIndX zp s
  | .saxZp zp => Sys2Proof.Machine.execSaxZp zp s
  | .saxAbs w => Sys2Proof.Machine.execSaxAbs w s
  | .saxZpY zp => Sys2Proof.Machine.execSaxZpY zp s
  | .tax => Sys2Proof.Machine.execTax s
  | .tay => Sys2Proof.Machine.execTay s
  | .txa => Sys2Proof.Machine.execTxa s
  | .tya => Sys2Proof.Machine.execTya s
  | .tsx => Sys2Proof.Machine.execTsx s
  | .txs => Sys2Proof.Machine.execTxs s
  | .adcIndX zp => Sys2Proof.Machine.execAdcIndX zp s
  | .adcZp zp => Sys2Proof.Machine.execAdcZp zp s
  | .adcImm v => Sys2Proof.Machine.execAdcImm v s
  | .adcAbs w => Sys2Proof.Machine.execAdcAbs w s
  | .adcIndY zp => Sys2Proof.Machine.execAdcIndY zp s
  | .adcZpX zp => Sys2Proof.Machine.execAdcZpX zp s
  | .adcAbsY w => Sys2Proof.Machine.execAdcAbsY w s
  | .adcAbsX w => Sys2Proof.Machine.execAdcAbsX w s
  | .sbcIndX zp => Sys2Proof.Machine.execSbcIndX zp s
  | .sbcZp zp => Sys2Proof.Machine.execSbcZp zp s
  | .sbcImm v => Sys2Proof.Machine.execSbcImm v s
  | .sbcImmEB v => Sys2Proof.Machine.execSbcImmEB v s
  | .sbcAbs w => Sys2Proof.Machine.execSbcAbs w s
  | .sbcIndY zp => Sys2Proof.Machine.execSbcIndY zp s
  | .sbcZpX zp => Sys2Proof.Machine.execSbcZpX zp s
  | .sbcAbsY w => Sys2Proof.Machine.execSbcAbsY w s
  | .sbcAbsX w => Sys2Proof.Machine.execSbcAbsX w s
  | .andIndX zp => Sys2Proof.Machine.execAndIndX zp s
  | .andZp zp => Sys2Proof.Machine.execAndZp zp s
  | .andImm v => Sys2Proof.Machine.execAndImm v s
  | .andAbs w => Sys2Proof.Machine.execAndAbs w s
  | .andIndY zp => Sys2Proof.Machine.execAndIndY zp s
  | .andZpX zp => Sys2Proof.Machine.execAndZpX zp s
  | .andAbsY w => Sys2Proof.Machine.execAndAbsY w s
  | .andAbsX w => Sys2Proof.Machine.execAndAbsX w s
  | .oraIndX zp => Sys2Proof.Machine.execOraIndX zp s
  | .oraZp zp => Sys2Proof.Machine.execOraZp zp s
  | .oraImm v => Sys2Proof.Machine.execOraImm v s
  | .oraAbs w => Sys2Proof.Machine.execOraAbs w s
  | .oraIndY zp => Sys2Proof.Machine.execOraIndY zp s
  | .oraZpX zp => Sys2Proof.Machine.execOraZpX zp s
  | .oraAbsY w => Sys2Proof.Machine.execOraAbsY w s
  | .oraAbsX w => Sys2Proof.Machine.execOraAbsX w s
  | .eorIndX zp => Sys2Proof.Machine.execEorIndX zp s
  | .eorZp zp => Sys2Proof.Machine.execEorZp zp s
  | .eorImm v => Sys2Proof.Machine.execEorImm v s
  | .eorAbs w => Sys2Proof.Machine.execEorAbs w s
  | .eorIndY zp => Sys2Proof.Machine.execEorIndY zp s
  | .eorZpX zp => Sys2Proof.Machine.execEorZpX zp s
  | .eorAbsY w => Sys2Proof.Machine.execEorAbsY w s
  | .eorAbsX w => Sys2Proof.Machine.execEorAbsX w s
  | .bitZp zp => Sys2Proof.Machine.execBitZp zp s
  | .bitAbs w => Sys2Proof.Machine.execBitAbs w s
  | .cmpIndX zp => Sys2Proof.Machine.execCmpIndX zp s
  | .cmpZp zp => Sys2Proof.Machine.execCmpZp zp s
  | .cmpImm v => Sys2Proof.Machine.execCmpImm v s
  | .cmpAbs w => Sys2Proof.Machine.execCmpAbs w s
  | .cmpIndY zp => Sys2Proof.Machine.execCmpIndY zp s
  | .cmpZpX zp => Sys2Proof.Machine.execCmpZpX zp s
  | .cmpAbsY w => Sys2Proof.Machine.execCmpAbsY w s
  | .cmpAbsX w => Sys2Proof.Machine.execCmpAbsX w s
  | .cpxImm v => Sys2Proof.Machine.execCpxImm v s
  | .cpxZp zp => Sys2Proof.Machine.execCpxZp zp s
  | .cpxAbs w => Sys2Proof.Machine.execCpxAbs w s
  | .cpyImm v => Sys2Proof.Machine.execCpyImm v s
  | .cpyZp zp => Sys2Proof.Machine.execCpyZp zp s
  | .cpyAbs w => Sys2Proof.Machine.execCpyAbs w s
  | .incZp zp => Sys2Proof.Machine.execIncZp zp s
  | .incAbs w => Sys2Proof.Machine.execIncAbs w s
  | .incZpX zp => Sys2Proof.Machine.execIncZpX zp s
  | .incAbsX w => Sys2Proof.Machine.execIncAbsX w s
  | .decZp zp => Sys2Proof.Machine.execDecZp zp s
  | .decAbs w => Sys2Proof.Machine.execDecAbs w s
  | .decZpX zp => Sys2Proof.Machine.execDecZpX zp s
  | .decAbsX w => Sys2Proof.Machine.execDecAbsX w s
  | .inx => Sys2Proof.Machine.execInx s
  | .iny => Sys2Proof.Machine.execIny s
  | .dex => Sys2Proof.Machine.execDex s
  | .dey => Sys2Proof.Machine.execDey s
  | .aslZp zp => Sys2Proof.Machine.execAslZp zp s
  | .aslAcc => Sys2Proof.Machine.execAslAcc s
  | .aslAbs w => Sys2Proof.Machine.execAslAbs w s
  | .aslZpX zp => Sys2Proof.Machine.execAslZpX zp s
  | .aslAbsX w => Sys2Proof.Machine.execAslAbsX w s
  | .lsrZp zp => Sys2Proof.Machine.execLsrZp zp s
  | .lsrAcc => Sys2Proof.Machine.execLsrAcc s
  | .lsrAbs w => Sys2Proof.Machine.execLsrAbs w s
  | .lsrZpX zp => Sys2Proof.Machine.execLsrZpX zp s
  | .lsrAbsX w => Sys2Proof.Machine.execLsrAbsX w s
  | .rolZp zp => Sys2Proof.Machine.execRolZp zp s
  | .rolAcc => Sys2Proof.Machine.execRolAcc s
  | .rolAbs w => Sys2Proof.Machine.execRolAbs w s
  | .rolZpX zp => Sys2Proof.Machine.execRolZpX zp s
  | .rolAbsX w => Sys2Proof.Machine.execRolAbsX w s
  | .rorZp zp => Sys2Proof.Machine.execRorZp zp s
  | .rorAcc => Sys2Proof.Machine.execRorAcc s
  | .rorAbs w => Sys2Proof.Machine.execRorAbs w s
  | .rorZpX zp => Sys2Proof.Machine.execRorZpX zp s
  | .rorAbsX w => Sys2Proof.Machine.execRorAbsX w s
  | .sloIndX zp => Sys2Proof.Machine.execSloIndX zp s
  | .sloZp zp => Sys2Proof.Machine.execSloZp zp s
  | .sloAbs w => Sys2Proof.Machine.execSloAbs w s
  | .sloIndY zp => Sys2Proof.Machine.execSloIndY zp s
  | .sloZpX zp => Sys2Proof.Machine.execSloZpX zp s
  | .sloAbsY w => Sys2Proof.Machine.execSloAbsY w s
  | .sloAbsX w => Sys2Proof.Machine.execSloAbsX w s
  | .rlaIndX zp => Sys2Proof.Machine.execRlaIndX zp s
  | .rlaZp zp => Sys2Proof.Machine.execRlaZp zp s
  | .rlaAbs w => Sys2Proof.Machine.execRlaAbs w s
  | .rlaIndY zp => Sys2Proof.Machine.execRlaIndY zp s
  | .rlaZpX zp => Sys2Proof.Machine.execRlaZpX zp s
  | .rlaAbsY w => Sys2Proof.Machine.execRlaAbsY w s
  | .rlaAbsX w => Sys2Proof.Machine.execRlaAbsX w s
  | .sreIndX zp => Sys2Proof.Machine.execSreIndX zp s
  | .sreZp zp => Sys2Proof.Machine.execSreZp zp s
  | .sreAbs w => Sys2Proof.Machine.execSreAbs w s
  | .sreIndY zp => Sys2Proof.Machine.execSreIndY zp s
  | .sreZpX zp => Sys2Proof.Machine.execSreZpX zp s
  | .sreAbsY w => Sys2Proof.Machine.execSreAbsY w s
  | .sreAbsX w => Sys2Proof.Machine.execSreAbsX w s
  | .rraIndX zp => Sys2Proof.Machine.execRraIndX zp s
  | .rraZp zp => Sys2Proof.Machine.execRraZp zp s
  | .rraAbs w => Sys2Proof.Machine.execRraAbs w s
  | .rraIndY zp => Sys2Proof.Machine.execRraIndY zp s
  | .rraZpX zp => Sys2Proof.Machine.execRraZpX zp s
  | .rraAbsY w => Sys2Proof.Machine.execRraAbsY w s
  | .rraAbsX w => Sys2Proof.Machine.execRraAbsX w s
  | .dcpIndX zp => Sys2Proof.Machine.execDcpIndX zp s
  | .dcpZp zp => Sys2Proof.Machine.execDcpZp zp s
  | .dcpAbs w => Sys2Proof.Machine.execDcpAbs w s
  | .dcpIndY zp => Sys2Proof.Machine.execDcpIndY zp s
  | .dcpZpX zp => Sys2Proof.Machine.execDcpZpX zp s
  | .dcpAbsY w => Sys2Proof.Machine.execDcpAbsY w s
  | .dcpAbsX w => Sys2Proof.Machine.execDcpAbsX w s
  | .isbIndX zp => Sys2Proof.Machine.execIsbIndX zp s
  | .isbZp zp => Sys2Proof.Machine.execIsbZp zp s
  | .isbAbs w => Sys2Proof.Machine.execIsbAbs w s
  | .isbIndY zp => Sys2Proof.Machine.execIsbIndY zp s
  | .isbZpX zp => Sys2Proof.Machine.execIsbZpX zp s
  | .isbAbsY w => Sys2Proof.Machine.execIsbAbsY w s
  | .isbAbsX w => Sys2Proof.Machine.execIsbAbsX w s
  | .bcc off => Sys2Proof.Machine.execBcc off s
  | .bcs off => Sys2Proof.Machine.execBcs off s
  | .beq off => Sys2Proof.Machine.execBeq off s
  | .bne off => Sys2Proof.Machine.execBne off s
  | .bmi off => Sys2Proof.Machine.execBmi off s
  | .bpl off => Sys2Proof.Machine.execBpl off s
  | .bvc off => Sys2Proof.Machine.execBvc off s
  | .bvs off => Sys2Proof.Machine.execBvs off s
  | .jmpAbs w => Sys2Proof.Machine.execJmpAbs w s
  | .jmpInd w => Sys2Proof.Machine.execJmpInd w s
  | .jsr w => Sys2Proof.Machine.execJsr w s
  | .rts => Sys2Proof.Machine.execRts s
  | .rti => Sys2Proof.Machine.execRti s
  | .brk => Sys2Proof.Machine.execBrk s
  | .pha => Sys2Proof.Machine.execPha s
  | .pla => Sys2Proof.Machine.execPla s
  | .php => Sys2Proof.Machine.execPhp s
  | .plp => Sys2Proof.Machine.execPlp s
  | .clc => Sys2Proof.Machine.execClc s
  | .sec => Sys2Proof.Machine.execSec s
  | .cli => Sys2Proof.Machine.execCli s
  | .sei => Sys2Proof.Machine.execSei s
  | .clv => Sys2Proof.Machine.execClv s
  | .cld => Sys2Proof.Machine.execCld s
  | .sed => Sys2Proof.Machine.execSed s
  | .nopZp04 zp => Sys2Proof.Machine.execNopZp04 zp s
  | .nopAbs0C w => Sys2Proof.Machine.execNopAbs0C w s
  | .nopZpX14 zp => Sys2Proof.Machine.execNopZpX14 zp s
  | .nop1A => Sys2Proof.Machine.execNop1A s
  | .nopAbsX1C w => Sys2Proof.Machine.execNopAbsX1C w s
  | .nopZpX34 zp => Sys2Proof.Machine.execNopZpX34 zp s
  | .nop3A => Sys2Proof.Machine.execNop3A s
  | .nopAbsX3C w => Sys2Proof.Machine.execNopAbsX3C w s
  | .nopZp44 zp => Sys2Proof.Machine.execNopZp44 zp s
  | .nopZpX54 zp => Sys2Proof.Machine.execNopZpX54 zp s
  | .nop5A => Sys2Proof.Machine.execNop5A s
  | .nopAbsX5C w => Sys2Proof.Machine.execNopAbsX5C w s
  | .nopZp64 zp => Sys2Proof.Machine.execNopZp64 zp s
  | .nopZpX74 zp => Sys2Proof.Machine.execNopZpX74 zp s
  | .nop7A => Sys2Proof.Machine.execNop7A s
  | .nopAbsX7C w => Sys2Proof.Machine.execNopAbsX7C w s
  | .nopImm80 v => Sys2Proof.Machine.execNopImm80 v s
  | .nopImm82 v => Sys2Proof.Machine.execNopImm82 v s
  | .nopImm89 v => Sys2Proof.Machine.execNopImm89 v s
  | .nopImmC2 v => Sys2Proof.Machine.execNopImmC2 v s
  | .nopZpXD4 zp => Sys2Proof.Machine.execNopZpXD4 zp s
  | .nopDA => Sys2Proof.Machine.execNopDA s
  | .nopAbsXDC w => Sys2Proof.Machine.execNopAbsXDC w s
  | .nopImmE2 v => Sys2Proof.Machine.execNopImmE2 v s
  | .nop => Sys2Proof.Machine.execNop s
  | .nopZpXF4 zp => Sys2Proof.Machine.execNopZpXF4 zp s
  | .nopFA => Sys2Proof.Machine.execNopFA s
  | .nopAbsXFC w => Sys2Proof.Machine.execNopAbsXFC w s
  | .undef02 => Sys2Proof.Machine.execUndef02 s
  | .undef0B => Sys2Proof.Machine.execUndef0B s
  | .undef12 => Sys2Proof.Machine.execUndef12 s
  | .undef22 => Sys2Proof.Machine.execUndef22 s
  | .undef2B => Sys2Proof.Machine.execUndef2B s
  | .undef32 => Sys2Proof.Machine.execUndef32 s
  | .undef42 => Sys2Proof.Machine.execUndef42 s
  | .undef4B => Sys2Proof.Machine.execUndef4B s
  | .undef52 => Sys2Proof.Machine.execUndef52 s
  | .undef62 => Sys2Proof.Machine.execUndef62 s
  | .undef6B => Sys2Proof.Machine.execUndef6B s
  | .undef72 => Sys2Proof.Machine.execUndef72 s
  | .undef8B => Sys2Proof.Machine.execUndef8B s
  | .undef92 => Sys2Proof.Machine.execUndef92 s
  | .undef93 => Sys2Proof.Machine.execUndef93 s
  | .undef9B => Sys2Proof.Machine.execUndef9B s
  | .undef9C => Sys2Proof.Machine.execUndef9C s
  | .undef9E => Sys2Proof.Machine.execUndef9E s
  | .undef9F => Sys2Proof.Machine.execUndef9F s
  | .undefAB => Sys2Proof.Machine.execUndefAB s
  | .undefB2 => Sys2Proof.Machine.execUndefB2 s
  | .undefBB => Sys2Proof.Machine.execUndefBB s
  | .undefCB => Sys2Proof.Machine.execUndefCB s
  | .undefD2 => Sys2Proof.Machine.execUndefD2 s
  | .undefF2 => Sys2Proof.Machine.execUndefF2 s

end Sys2Proof.Machine
end

