-- ==== Sys2Proof/Machine/Engine.lean ====
section
/-! DEFINITION. The PPU scanline engine, sprite evaluator and frame emission (60_exceptions.md R630 to R638), and the
reading of a pattern or a sprite attribute that the frame's consumer needs (R636, R637). -/

namespace Sys2Proof.Machine

/-! ### Background band and sprite list -/

/-- Sixteen pattern bytes from a CHR address on (R635, R637). -/
def patternAt (cfg : Config) (p : Ppu) (base : Nat) : List Byte :=
  (List.range 16).map fun j => ppuRead cfg p (base + j)

/-- The tile at column `x` of band `k` (R635). -/
def bandTile (cfg : Config) (p : Ppu) (k x : Nat) : BgTile :=
  let patternBase := if p.ctrl.getLsbD 4 then 0x1000 else 0x0000
  let cx0 := (p.scrollX.toNat + 256 * (p.ctrl.getLsbD 0).toNat) / 8
  let cy0 := (p.scrollY.toNat + 240 * (p.ctrl.getLsbD 1).toNat) / 8
  let ty := (k + cy0) % 30
  let nty := (k + cy0) / 30 % 2
  let tx := (x + cx0) % 32
  let ntx := (x + cx0) / 32 % 2
  let base := 0x2000 + (ntx + 2 * nty) * 0x400
  let index := ppuRead cfg p (base + ty * 32 + tx)
  let attr := ppuRead cfg p (base + 0x3C0 + ty / 4 * 8 + tx / 4)
  let quadrant := tx % 4 / 2 + 2 * (ty % 4 / 2)
  { index := index
    paletteId := attr.extractLsb' (2 * quadrant) 2
    pattern := patternAt cfg p (patternBase + index.toNat * 16)
    scrollX := p.scrollX
    scrollY := p.scrollY }

/-- BuildBand(k): 33 tiles appended to the background list (R635). -/
def buildBand (cfg : Config) (k : Nat) (p : Ppu) : Ppu :=
  { p with bgList := p.bgList ++ (List.range 33).map (bandTile cfg p k) }

/-- Sprite `i` of OAM, if its Y less one is positive (R637). -/
def spriteAt (cfg : Config) (p : Ppu) (i : Nat) : Option Sprite :=
  let y := p.oam.read (4 * i)
  let tile := p.oam.read (4 * i + 1)
  let patternBase := if p.ctrl.getLsbD 3 then 0x1000 else 0x0000
  if (y.toNat : Int) - 1 > 0 then
    some { oamIndex := i
           x := p.oam.read (4 * i + 3)
           y := y - 1
           tile := tile
           attr := p.oam.read (4 * i + 2)
           pattern := patternAt cfg p (patternBase + tile.toNat * 16) }
  else none

/-- FrameStart(): an empty background list and the sprites of OAM, index 0 first (R637). -/
def frameStart (cfg : Config) (p : Ppu) : Ppu :=
  { p with bgList := [], spriteList := (List.range 64).filterMap (spriteAt cfg p) }

/-- EmitFrame(): the palette's read view, and each list if its enable bit is set (R638). -/
def emitFrame (cfg : Config) (p : Ppu) : Frame where
  palette := (List.range 32).map (paletteRead cfg p)
  background := if p.mask.getLsbD 3 then some p.bgList else none
  sprites := if p.mask.getLsbD 4 then some p.spriteList else none

/-! ### Scanlines and dots -/

/-- Sprite0Test(s): the coarse hit test at a scanline's start (R634). -/
def sprite0Test (line : Nat) (p : Ppu) : Ppu :=
  if line = (p.oam.read 0).toNat ∧ p.mask.getLsbD 3 = true ∧ p.mask.getLsbD 4 = true then
    { p with sprite0Hit := true }
  else p

/-- VblankStart(): vblank is set, and NMI asserted when control bit 7 is 1 (R632). -/
def vblankStart (s : State) : State :=
  let s1 := { s with ppu := { s.ppu with vblank := true } }
  if s.ppu.ctrl.getLsbD 7 then { s1 with nmiLine := true } else s1

/-- ScanlineStart(line): the sprite-0 test, the band of a visible line divisible by 8, vblank at line 241 (R631). -/
def scanlineStart (line : Nat) (s : State) : State :=
  let p1 := sprite0Test line s.ppu
  let p2 := if line % 8 = 0 ∧ line < 240 then buildBand s.cfg (line / 8) p1 else p1
  let s2 := { s with ppu := p2 }
  if line = 241 then vblankStart s2 else s2

/-- FrameEnd(): the frame flags and the NMI line are cleared, the frame is emitted from the lists, mask and palette as they
are, and the next frame starts (R633). The frame becomes the run's result unless it already has one (R630). -/
def frameEnd (s : State) : State :=
  let p := { s.ppu with vblank := false, sprite0Hit := false, scanline := 0 }
  let frame := emitFrame s.cfg p
  { s with
    nmiLine := false
    ppu := frameStart s.cfg p
    frameOut := match s.frameOut with
      | some f => some f
      | none => some frame }

/-- One dot of R630: the counter advances, and at 341 it wraps and the next scanline starts. -/
def tick (s : State) : State :=
  let d := s.ppu.dot + 1
  if d = 341 then
    let s1 := { s with ppu := { s.ppu with dot := 0 } }
    if s.ppu.scanline = 261 then scanlineStart 0 (frameEnd s1)
    else
      let line := s.ppu.scanline + 1
      scanlineStart line { s1 with ppu := { s1.ppu with scanline := line } }
  else { s with ppu := { s.ppu with dot := d } }

/-- The given number of dots, one after another (R630's loop). -/
def ticks : Nat → State → State
  | 0, s => s
  | n + 1, s => ticks n (tick s)

/-- run(n): no result yet, then n dots; `frameOut` is the result (R630). -/
def runPpu (n : Nat) (s : State) : State := ticks n { s with frameOut := none }

/-! ### Reading the frame's data (R636, R637) -/

/-- The 2-bit pixel of a pattern at row `r`, column `c`: plane 0 from byte r, plane 1 from byte r + 8 (R636). -/
def patternPixel (pattern : List Byte) (r c : Nat) : BitVec 2 :=
  BitVec.ofBool ((pattern.getD (r + 8) 0).getLsbD (7 - c)) ++ BitVec.ofBool ((pattern.getD r 0).getLsbD (7 - c))

/-- A sprite pixel of pattern value 0 is transparent (R636). -/
def Sprite.transparentAt (sp : Sprite) (r c : Nat) : Bool := patternPixel sp.pattern r c == 0

/-- The palette of a sprite: attribute bits 0 and 1 (R637). -/
def Sprite.paletteId (sp : Sprite) : BitVec 2 := sp.attr.extractLsb' 0 2

/-- Behind the background: attribute bit 5 (R637). -/
def Sprite.behind (sp : Sprite) : Bool := sp.attr.getLsbD 5

/-- Horizontal flip: attribute bit 6 (R637). -/
def Sprite.flipX (sp : Sprite) : Bool := sp.attr.getLsbD 6

/-- Vertical flip: attribute bit 7 (R637). -/
def Sprite.flipY (sp : Sprite) : Bool := sp.attr.getLsbD 7

end Sys2Proof.Machine
end

