-- ==== Sys2Proof/Machine/Fetch.lean ====
section
/-! DEFINITION. Fetching an instruction (00_scope.md R9 Fetch8, Fetch16; 60_exceptions.md R602 parts 2 and 3), the external
IRQ input (R613), and placing an instruction where the machine fetches it (for the host). -/

namespace Sys2Proof.Machine

/-- Fetch8(): one bus read at PC, then PC + 1 modulo $10000 (R9, 10_state.md R103). -/
def fetch8 (s : State) : Byte × State :=
  let v := busRead s.cpu.pc s
  (v.1, v.2.setPc (v.2.cpu.pc + 1))

/-- Fetch16(): low byte, then high byte (R9). -/
def fetch16 (s : State) : Word × State :=
  let lo := fetch8 s
  let hi := fetch8 lo.2
  (joinBytes hi.1 lo.1, hi.2)

/-- The instruction at PC and the state after its bytes are fetched: the opcode, its entry in the map, then the entry's
operand bytes; an UNDEF entry has none (R602; 30_encoding.md R301). -/
def fetchInstr (s : State) : Instr × State :=
  let op := fetch8 s
  match formatOf op.1 with
  | .noOperand i => (i, op.2)
  | .byteOperand f => (f (fetch8 op.2).1, (fetch8 op.2).2)
  | .wordOperand f => (f (fetch16 op.2).1, (fetch16 op.2).2)

/-- The IRQ input before an iteration: the next entry of the schedule, if any, asserts the line or not (R613; log 3). -/
def takeIrqInput (s : State) : State :=
  match s.irqInput with
  | [] => s
  | assert :: rest => { s with irqLine := s.irqLine || assert, irqInput := rest }

/-! ### Placing an instruction (the host's withFetchWord; log 10) -/

/-- Whether an address reads work RAM or PRG, where code can be placed. -/
def holdsCode (cfg : Config) (a : Word) : Bool :=
  match busTarget cfg a with
  | .ram _ | .prg _ => true
  | _ => false

/-- Put a byte into the RAM cell or the PRG image cell an address reads. -/
def placeCode (a : Word) (v : Byte) (s : State) : State :=
  match busTarget s.cfg a with
  | .ram i => { s with ram := s.ram.write i v }
  | .prg off => { s with cfg := { s.cfg with prg := s.cfg.prg.write off v } }
  | _ => s

/-- Where the next instruction can be placed: PC if its three bytes lie in RAM or PRG, else $8000 (log 10). -/
def placementPc (s : State) : Word :=
  if holdsCode s.cfg s.cpu.pc && holdsCode s.cfg (s.cpu.pc + 1) && holdsCode s.cfg (s.cpu.pc + 2) then s.cpu.pc
  else 0x8000

/-- The state in which the next iteration is a CPU step that takes no interrupt: no fault, no DMA, no NMI, and no IRQ
unless it is masked. -/
def readyToFetch (s : State) : State :=
  { s with
    fault := none
    dma := { s.dma with pending := false }
    nmiLine := false
    irqLine := s.irqLine && s.cpu.p.i
    irqInput := if s.cpu.p.i then s.irqInput else
      match s.irqInput with
      | true :: rest => false :: rest
      | l => l }

/-- The bytes placed at the placement PC, in order. -/
def placeBytes : List Byte → Word → State → State
  | [], _, s => s
  | b :: bs, a, s => placeBytes bs (a + 1) (placeCode a b s)

end Sys2Proof.Machine
end

