-- ==== Sys2Proof/Machine/Step.lean ====
section
/-! DEFINITION. One step of the machine: one system iteration (60_exceptions.md R660). -/

namespace Sys2Proof.Machine

/-- The CPU's part of an iteration: at most one interrupt dispatch, the fetch, the instruction (R602). -/
def cpuStep (s : State) : Host.Outcome State Fault Refusal :=
  exec (fetchInstr (interruptCheck s)).1 (fetchInstr (interruptCheck s)).2

/-- The PPU's part of an iteration: three dots per cycle the iteration reported (R660). A fault raised in the iteration
makes no PPU run and no frame (R601, 44 R532). -/
def catchUp (s : State) : State :=
  match s.fault with
  | none => runPpu (3 * s.cycles) s
  | some _ => { s with frameOut := none }

/-- One system iteration (R660): the IRQ input, then the DMA copy if one is pending and a CPU step otherwise, then the PPU.
A machine with a recorded fault has no step (R601): it answers that fault. -/
def step (s : State) : Host.Outcome State Fault Refusal :=
  match s.fault with
  | some f => .fault f
  | none =>
    if (takeIrqInput s).dma.pending then .next (catchUp (dmaIteration (takeIrqInput s)))
    else
      match cpuStep (takeIrqInput s) with
      | .next t => .next (catchUp t)
      | .fault f => .fault f
      | .refused r => .refused r

/-- The state with the given instruction word placed where the next step fetches, so that this step runs it (log 10). -/
def State.withFetchWord (s : State) (nbits w : Nat) : State :=
  placeBytes (tableWordBytes nbits w) (placementPc s) (readyToFetch (s.setPc (placementPc s)))

end Sys2Proof.Machine
end

