-- ==== Sys2Proof/WellFormed.lean ====
section
/-! DEFINITION. Well-formedness: of a table row with its operand, of an instruction, of a cartridge and of a
configuration. -/

namespace Sys2Proof

/-- A row is well formed when the opcode table gives its opcode byte this mnemonic and this addressing mode
(30_encoding.md R301, R314, R316: every admitted opcode has exactly the one mode the map gives). -/
def Row.wellFormed (r : Row) : Bool := tableEntry r.opcode == (r.mnemonic, r.operand.mode)

/-- An instruction is well formed when its row is. The operand fields carry their widths in their types, so no field can be
out of range; every constructor stands for a row of the table, and the check says its opcode, mnemonic and mode agree. -/
def Instr.wellFormed (i : Instr) : Bool := i.row.wellFormed

/-- The cartridge premise of 92_eei_decisions.md D2: PRG of 16384 or 32768 bytes, CHR of 0 or at least 8192 bytes. -/
def Cartridge.wellFormed (c : Cartridge) : Bool :=
  (c.prg.length == 16384 || c.prg.length == 32768) && (c.chr.length == 0 || 8192 ≤ c.chr.length)

/-- The opcode bytes with an entry other than UNDEF: the 231 admitted opcodes (30_encoding.md R314). -/
def admitted (op : Byte) : Bool := (tableEntry op).1 != .undef

/-- A configuration is well formed when its PRG image is canonical and fits its size and BASE_CYCLES gives each of the 256
opcode bytes a number, at least 2 for the admitted ones (60_exceptions.md R602: every admitted opcode has base ≥ 2). -/
def Config.wellFormed (c : Config) : Bool :=
  decide c.prg.wf && decide (c.prg.below c.prgSize.bytes) && c.baseCycles.length == 256 &&
    (List.range 256).all fun n => !admitted (BitVec.ofNat 8 n) || 2 ≤ c.baseCycles.getD n 0

end Sys2Proof
end

