-- ==== Sys2Proof/Machine/System.lean ====
section
/-! DEFINITION. The host interface: the reset input and power-on (70_reset_and_hazards.md R700 to R703), step_frame
(60_exceptions.md R661), latch_buttons (R652) and a direct IRQ assertion (R613). -/

namespace Sys2Proof.Machine

/-- Reset() on a configuration and a CHR memory (R700): steps 2 to 7 give every field its value, step 8 reads the reset
vector, step 9 performs the frame-start and scanline-0 actions once. -/
def resetSequence (cfg : Config) (chr : Memory) : State :=
  let zeroed : State :=
    { cfg := cfg
      cpu := {
        a := 0
        x := 0
        y := 0
        sp := 0xFD
        pc := 0
        p := { n := false, v := false, r := true, b := true, d := false, i := true, z := false, c := false } }
      fault := none
      nmiLine := false
      irqLine := false
      ram := []
      ppu := {
        ctrl := 0
        mask := 0
        vblank := false
        sprite0Hit := false
        oamAddr := 0
        scrollX := 0
        scrollY := 0
        vramAddr := 0
        w := false
        readBuffer := 0
        dot := 0
        scanline := 0
        chr := chr
        vram := []
        palette := []
        oam := []
        bgList := []
        spriteList := [] }
      dma := { pending := false, page := 0 }
      pad := { liveButtons := 0, snapshot := 0, strobe := false, index := 0 }
      irqInput := []
      cycles := 0
      frameOut := none }
  let v := readWord resetVector zeroed
  let s := v.2.setPc v.1
  scanlineStart 0 { s with ppu := frameStart s.cfg s.ppu }

/-- The block input `reset` (R700, R702): the configuration, PRG and CHR-ROM stay, CHR-RAM is zeroed, the IRQ schedule
stays an input of its own, everything else is as R150 lists it; a fault is cleared. -/
def doReset (s : State) : State :=
  { resetSequence s.cfg (if s.cfg.chrIsRam then [] else s.ppu.chr) with irqInput := s.irqInput }

/-- The configuration of a cartridge under given parameters (10_state.md R111, R112). -/
def Cartridge.install (c : Cartridge) (params : Config) : Config :=
  { params with
    prgSize := if c.prg.length = 16384 then .kib16 else .kib32
    prg := Memory.ofBytes c.prg
    chrIsRam := c.chr.isEmpty
    mirroring := c.mirroring }

/-- Power-on with a cartridge: reset on its configuration, CHR from the first 8192 bytes of its image; a cartridge that is
not well formed is refused before reset (92_eei_decisions.md D2). -/
def powerOn (c : Cartridge) (params : Config) : Out :=
  if c.wellFormed then .next (resetSequence (Cartridge.install c params) (Memory.ofBytes (c.chr.take 8192)))
  else .refused .cartridgeFormat

/-- At most `fuel` iterations, up to and including the first that returns a frame; one that records a fault ends the run
with that fault (R661). -/
def runToFrame : Nat → State → Out
  | 0, s => .next s
  | fuel + 1, s =>
    match step s with
    | .next t =>
      match t.fault with
      | some f => .fault f
      | none => if t.frameOut.isSome then .next t else runToFrame fuel t
    | .fault f => .fault f
    | .refused r => .refused r

/-- The bound of R661 on the iterations before a frame, ⌈89342 / 6⌉. -/
def frameBound : Nat := 14891

/-- step_frame(): iterations until one returns a frame, which is then in `frameOut`; a fault ends it without one (R661). -/
def stepFrame (s : State) : Out := runToFrame frameBound s

/-- latch_buttons(state): the host operation between frames (R652). -/
def latchButtons (buttons : Byte) (s : State) : State := { s with pad := s.pad.latch buttons }

/-- irq_assert: an external agent asserts the IRQ line between iterations (R613). -/
def assertIrq (s : State) : State := { s with irqLine := true }

end Sys2Proof.Machine
end

