-- ==== Sys2Proof/Safety.lean ====
section
/-! DEFINITION. What a run is, what a safe run is, and the invariant of the machine's states. -/

namespace Sys2Proof.Machine

/-- One iteration leads from `s` to `t`. -/
def Steps (s t : State) : Prop := step s = .next t

/-- `t` is reached from `s` by some number of iterations. -/
inductive Reaches : State → State → Prop where
  | refl (s : State) : Reaches s s
  | tail {s t u : State} : Reaches s t → Steps t u → Reaches s u

/-- A run of `n` iterations that answers a state and records no fault on the way: a recorded fault makes the next step
answer it (60_exceptions.md R601). -/
def SafeRun (n : Nat) (s : State) : Prop := ∃ t, Sys2Proof.core.run n s = .next t ∧ t.fault = none

/-- The number of bands built when a frame stands at scanline `line` (R631, R635): one at each of 0, 8, …, 232. -/
def bandsBuilt (line : Nat) : Nat := min (line / 8) 29 + 1

/-- The memories are canonical and fit their stores (10_state.md R110 to R115), and the four palette bytes that writes fold
away are never listed (20_memory.md R223). -/
structure MemoriesOk (s : State) : Prop where
  ram : s.ram.wf ∧ s.ram.below 2048
  prg : s.cfg.prg.wf ∧ s.cfg.prg.below s.cfg.prgSize.bytes
  chr : s.ppu.chr.wf ∧ s.ppu.chr.below 8192
  vram : s.ppu.vram.wf ∧ s.ppu.vram.below 2048
  palette : s.ppu.palette.wf ∧ s.ppu.palette.below 32
  oam : s.ppu.oam.wf ∧ s.ppu.oam.below 256
  folded : ∀ c ∈ s.ppu.palette, isPaletteMirror c.1 = false

/-- The lists of the frame being built have the shape of R635, R637 and R638. -/
structure ListsOk (p : Ppu) : Prop where
  bands : p.bgList.length = 33 * bandsBuilt p.scanline
  tiles : ∀ t ∈ p.bgList, t.pattern.length = 16
  sprites : ∀ q ∈ p.spriteList, q.oamIndex < 64 ∧ 1 ≤ q.y.toNat ∧ q.y.toNat ≤ 254 ∧ q.pattern.length = 16
  order : p.spriteList.Pairwise fun q r => q.oamIndex < r.oamIndex

/-- The invariant of the machine's states: memories, lists, the counters' ranges (10_state.md R125), the controller index
(R128), and the reserved status bit, always 1 (R104). -/
structure State.Inv (s : State) : Prop where
  memories : MemoriesOk s
  lists : ListsOk s.ppu
  dot : s.ppu.dot < 341
  scanline : s.ppu.scanline < 262
  index : s.pad.index ≤ 8
  reserved : s.cpu.p.r = true

/-! ### The bytes of memory, one by one -/

/-- A byte of one of the memories that something can write (10_state.md R110, R112 to R115). -/
inductive Place where
  | ram (i : Nat)
  | chr (i : Nat)
  | vram (i : Nat)
  | palette (i : Nat)
  | oam (i : Nat)
  deriving DecidableEq, Repr

/-- The byte a place holds. -/
def State.byteAt (s : State) : Place → Byte
  | .ram i => s.ram.read i
  | .chr i => s.ppu.chr.read i
  | .vram i => s.ppu.vram.read i
  | .palette i => s.ppu.palette.read i
  | .oam i => s.ppu.oam.read i

/-- The place a PPU-bus write at `e` stores to, if any (20_memory.md R221, R223). -/
def ppuStoredPlace (cfg : Config) (e : Nat) : Option Place :=
  if e ≤ 0x1FFF then (if cfg.chrIsRam then some (.chr e) else none)
  else if e ≤ 0x3EFF then some (.vram (ntMap cfg.mirroring ((e - 0x2000) &&& 0x0FFF)))
  else some (.palette (if isPaletteMirror (e &&& 0x1F) then (e &&& 0x1F) - 0x10 else e &&& 0x1F))

/-- The place a PPU-bus read at `e` reads, through the read view of the palette (20_memory.md R220, R224). -/
def ppuReadPlace (cfg : Config) (e : Nat) : Place :=
  if e ≤ 0x1FFF then .chr e
  else if e ≤ 0x3EFF then .vram (ntMap cfg.mirroring ((e - 0x2000) &&& 0x0FFF))
  else if isPaletteMirror (e &&& 0x1F) then .palette ((e &&& 0x1F) - 0x10)
  else if cfg.paletteBgMirrorCollapse && (e &&& 0x1F == 0x04 || e &&& 0x1F == 0x08 || e &&& 0x1F == 0x0C) then .palette 0
  else .palette (e &&& 0x1F)

/-- The place a CPU-bus write at `a` stores a byte to in a state, if any: a RAM byte, OAM at the cursor through $2004, or
what $2007 reaches (20_memory.md R205, 60_exceptions.md R625, R628). -/
def storedPlace (a : Word) (s : State) : Option Place :=
  match busTarget s.cfg a with
  | .ram i => some (.ram i)
  | .ppuReg .oamData => some (.oam s.ppu.oamAddr.toNat)
  | .ppuReg .data => ppuStoredPlace s.cfg (effectiveAddr s.ppu)
  | _ => none

/-! ### Runs of the stack and of the PPU -/

/-- Push every byte of a list, the head first. -/
def pushAll (bs : List Byte) (s : State) : State := bs.foldl (fun t b => push b t) s

/-- Pop `n` bytes, the first popped at the head. -/
def popAll : Nat → State → List Byte × State
  | 0, s => ([], s)
  | n + 1, s => ((pop s).1 :: (popAll n (pop s).2).1, (popAll n (pop s).2).2)

/-- Read $4016 `n` times, the first byte at the head. -/
def readPad : Nat → State → List Byte × State
  | 0, s => ([], s)
  | n + 1, s => ((busRead 0x4016 s).1 :: (readPad n (busRead 0x4016 s).2).1, (readPad n (busRead 0x4016 s).2).2)

/-- The dots of a frame, 262 × 341 (60_exceptions.md R630). -/
def frameDots : Nat := 89342

/-- The dots run since dot 0 of scanline 0. -/
def Ppu.position (p : Ppu) : Nat := p.scanline * 341 + p.dot

/-! ### What a mode produces -/

/-- The mode answers this payload (as a number), this extra cycle and this state. -/
def ResolvesTo (o : Operand) (s : State) (payload : Nat) (extra : Bool) (t : State) : Prop :=
  (resolve o s).payload.toNat = payload ∧ (resolve o s).extra = extra ∧ (resolve o s).state = t

/-! ### A line of an encoding table -/

/-- A line of an encoding table of files 40 to 44: the instruction, its opcode byte, its operand (which fixes mode and length),
its base cycles. -/
structure TableLine where
  instr : Instr
  opcode : Byte
  operand : Operand
  base : Nat

/-- The line is right: the instruction's row has this opcode byte, mnemonic and operand, its bytes are the opcode and then the
operand's, and the default table gives these base cycles. -/
def TableLine.Right (l : TableLine) (mn : Mnemonic) : Prop :=
  l.instr.row = ⟨l.opcode, mn, l.operand⟩ ∧ encode l.instr = l.opcode :: l.operand.bytes ∧
    nmosBaseCycles.getD l.opcode.toNat 0 = l.base

end Sys2Proof.Machine
end

