-- ==== Sys2Proof/Certificates/Slice0/Obligations.lean ====
section
/-! DEFINITION. The statements for the provers, each a proposition about the model of 6502_cpu_core. Every docstring names
the rules of spec/ it formalises; OBLIGATIONS.json lists them. -/

open Sys2Proof Sys2Proof.Machine

/-- Decoding the bytes of an instruction gives that instruction back (30_encoding.md R300, 30_encoding.md R301,
30_encoding.md R313, 30_encoding.md R314). -/
def Obligations.DecodeOfEncodeIsTheInstruction : Prop :=
  ∀ (i : Instr) (rest : List Byte), i.wellFormed = true → decode (encode i ++ rest) = .ok (i, rest)

/-- Encoding a decoded instruction gives the bytes it was read from (30_encoding.md R300, 30_encoding.md R301,
30_encoding.md R314). -/
def Obligations.EncodeOfDecodeIsTheBytes : Prop :=
  ∀ (bs rest : List Byte) (i : Instr), decode bs = .ok (i, rest) →
    i.wellFormed = true ∧ encode i ++ rest = bs

/-- The mode of the opcode byte alone fixes the length and the operand bytes of an instruction (R300). -/
def Obligations.LengthFollowsFromTheOpcodeMode : Prop :=
  ∀ (op : Byte) (rest : List Byte),
    let n := match (tableEntry op).2 with
      | .none | .implied | .accumulator => 1
      | .immediate | .zeroPage | .zeroPageX | .zeroPageY | .relative | .indirectX | .indirectY => 2
      | .absolute | .absoluteX | .absoluteY | .indirect => 3
    (rest.length + 1 < n → decode (op :: rest) = .error (.missingOperand op)) ∧
    (n ≤ rest.length + 1 → ∃ i, decode (op :: rest) = .ok (i, rest.drop (n - 1)) ∧ i.row.opcode = op ∧
      (i.row.mnemonic, i.row.operand.mode) = tableEntry op ∧ i.row.operand.bytes = rest.take (n - 1))

/-- Words written out from the encoding tables decode to the instructions they stand for (30_encoding.md R300,
30_encoding.md R314). -/
def Obligations.WordsOfTheSpecDecode : Prop :=
  decode [0xA9, 0x80] = .ok (.ldaImm 0x80, []) ∧
  decode [0x9D, 0x00, 0x03] = .ok (.staAbsX 0x0300, []) ∧
  decode [0x71, 0x10] = .ok (.adcIndY 0x10, []) ∧
  decode [0x2E, 0x34, 0x12] = .ok (.rolAbs 0x1234, []) ∧
  decode [0x03, 0x20] = .ok (.sloIndX 0x20, []) ∧
  decode [0xF0, 0x04] = .ok (.beq 0x04, []) ∧
  decode [0x6C, 0xFF, 0x02] = .ok (.jmpInd 0x02FF, []) ∧
  decode [0x20, 0x00, 0x90] = .ok (.jsr 0x9000, []) ∧
  decode [0x68] = .ok (.pla, []) ∧
  decode [0x0C, 0x02, 0x20] = .ok (.nopAbs0C 0x2002, []) ∧
  decode [0x02, 0x55] = .ok (.undef02, [0x55])

/-- A step runs the instruction whose bytes the bus reads at the program counter, one read per byte in order, with
their side effects, from any address (60_exceptions.md R602, 60_exceptions.md R660, 10_state.md R103, 20_memory.md
R201, 20_memory.md R203, 20_memory.md R204, 20_memory.md R209, 20_memory.md R235). -/
def Obligations.StepRunsTheDecodedInstruction : Prop :=
  ∀ (s : State) (i : Instr) (rest : List Byte),
    let v := interruptCheck (takeIrqInput s)
    let fetched := fun u : State => (busRead u.cpu.pc u).1
    let afterFetch := fun u : State => (busRead u.cpu.pc u).2.setPc (u.cpu.pc + 1)
    let byteAt := fun k : Nat => (busRead (v.cpu.pc + BitVec.ofNat 16 k) v).1
    let runsOn := fun u : State => step s = match exec i u with
      | .next t => .next (catchUp t)
      | .fault f => .fault f
      | .refused r => .refused r
    s.fault = none → (takeIrqInput s).dma.pending = false →
    (decode [fetched v, fetched (afterFetch v), fetched (afterFetch (afterFetch v))] = .ok (i, rest) →
      runsOn (Nat.repeat afterFetch (encode i).length v)) ∧
    (decode [byteAt 0, byteAt 1, byteAt 2] = .ok (i, rest) →
      (∀ k < (encode i).length, holdsCode v.cfg (v.cpu.pc + BitVec.ofNat 16 k) = true) →
      runsOn (v.setPc (v.cpu.pc + BitVec.ofNat 16 (encode i).length)))

/-- LDA, LDX, LDY and LAX in every form: the register, N and Z, and nothing else beyond the operand read (R400, R401,
R402, R412). -/
def Obligations.LoadsWriteTheirRegister : Prop :=
  ∀ (v zp : Byte) (w : Word) (s : State),
    (∀ l ∈ ([⟨.ldaIndX zp, 0xA1, .indX zp, 6⟩, ⟨.ldaZp zp, 0xA5, .zp zp, 3⟩,
              ⟨.ldaImm v, 0xA9, .imm v, 2⟩, ⟨.ldaAbs w, 0xAD, .abs w, 4⟩,
              ⟨.ldaIndY zp, 0xB1, .indY zp, 5⟩, ⟨.ldaZpX zp, 0xB5, .zpX zp, 4⟩,
              ⟨.ldaAbsY w, 0xB9, .absY w, 4⟩, ⟨.ldaAbsX w, 0xBD, .absX w, 4⟩] : List TableLine),
      l.Right .lda ∧
      (let m := readOperand l.operand s
       exec l.instr s = .next { m.2.2 with
         cpu := { s.cpu with a := m.1, p := { s.cpu.p with n := (m.1).getLsbD 7, z := m.1 == 0 } }
         cycles := cost s.cfg l.opcode .lda l.operand.mode m.2.1 false })) ∧
    (∀ l ∈ ([⟨.ldxImm v, 0xA2, .imm v, 2⟩, ⟨.ldxZp zp, 0xA6, .zp zp, 3⟩,
              ⟨.ldxAbs w, 0xAE, .abs w, 4⟩, ⟨.ldxZpY zp, 0xB6, .zpY zp, 4⟩,
              ⟨.ldxAbsY w, 0xBE, .absY w, 4⟩] : List TableLine),
      l.Right .ldx ∧
      (let m := readOperand l.operand s
       exec l.instr s = .next { m.2.2 with
         cpu := { s.cpu with x := m.1, p := { s.cpu.p with n := (m.1).getLsbD 7, z := m.1 == 0 } }
         cycles := cost s.cfg l.opcode .ldx l.operand.mode m.2.1 false })) ∧
    (∀ l ∈ ([⟨.ldyImm v, 0xA0, .imm v, 2⟩, ⟨.ldyZp zp, 0xA4, .zp zp, 3⟩,
              ⟨.ldyAbs w, 0xAC, .abs w, 4⟩, ⟨.ldyZpX zp, 0xB4, .zpX zp, 4⟩,
              ⟨.ldyAbsX w, 0xBC, .absX w, 4⟩] : List TableLine),
      l.Right .ldy ∧
      (let m := readOperand l.operand s
       exec l.instr s = .next { m.2.2 with
         cpu := { s.cpu with y := m.1, p := { s.cpu.p with n := (m.1).getLsbD 7, z := m.1 == 0 } }
         cycles := cost s.cfg l.opcode .ldy l.operand.mode m.2.1 false })) ∧
    (∀ l ∈ ([⟨.laxIndX zp, 0xA3, .indX zp, 6⟩, ⟨.laxZp zp, 0xA7, .zp zp, 3⟩,
              ⟨.laxAbs w, 0xAF, .abs w, 4⟩, ⟨.laxIndY zp, 0xB3, .indY zp, 5⟩,
              ⟨.laxZpY zp, 0xB7, .zpY zp, 4⟩, ⟨.laxAbsY w, 0xBF, .absY w, 4⟩] : List TableLine),
      l.Right .lax ∧
      (let m := readOperand l.operand s
       exec l.instr s = .next { m.2.2 with
         cpu := { s.cpu with a := m.1, x := m.1, p := { s.cpu.p with n := (m.1).getLsbD 7, z := m.1 == 0 } }
         cycles := cost s.cfg l.opcode .lax l.operand.mode m.2.1 false }))

/-- STA, STX, STY and SAX in every form: one bus write at the payload, no flag (R403, R404, R405, R413). -/
def Obligations.StoresWriteTheirByte : Prop :=
  ∀ (zp : Byte) (w : Word) (s : State),
    (∀ l ∈ ([⟨.staIndX zp, 0x81, .indX zp, 6⟩, ⟨.staZp zp, 0x85, .zp zp, 3⟩,
              ⟨.staAbs w, 0x8D, .abs w, 4⟩, ⟨.staIndY zp, 0x91, .indY zp, 6⟩,
              ⟨.staZpX zp, 0x95, .zpX zp, 4⟩, ⟨.staAbsY w, 0x99, .absY w, 5⟩,
              ⟨.staAbsX w, 0x9D, .absX w, 5⟩] : List TableLine),
      l.Right .sta ∧
      (let a := resolve l.operand s
       exec l.instr s = .next { busWrite a.payload (s.cpu.a) a.state with
         cycles := cost s.cfg l.opcode .sta l.operand.mode a.extra false })) ∧
    (∀ l ∈ ([⟨.stxZp zp, 0x86, .zp zp, 3⟩, ⟨.stxAbs w, 0x8E, .abs w, 4⟩,
              ⟨.stxZpY zp, 0x96, .zpY zp, 4⟩] : List TableLine),
      l.Right .stx ∧
      (let a := resolve l.operand s
       exec l.instr s = .next { busWrite a.payload (s.cpu.x) a.state with
         cycles := cost s.cfg l.opcode .stx l.operand.mode a.extra false })) ∧
    (∀ l ∈ ([⟨.styZp zp, 0x84, .zp zp, 3⟩, ⟨.styAbs w, 0x8C, .abs w, 4⟩,
              ⟨.styZpX zp, 0x94, .zpX zp, 4⟩] : List TableLine),
      l.Right .sty ∧
      (let a := resolve l.operand s
       exec l.instr s = .next { busWrite a.payload (s.cpu.y) a.state with
         cycles := cost s.cfg l.opcode .sty l.operand.mode a.extra false })) ∧
    (∀ l ∈ ([⟨.saxIndX zp, 0x83, .indX zp, 6⟩, ⟨.saxZp zp, 0x87, .zp zp, 3⟩,
              ⟨.saxAbs w, 0x8F, .abs w, 4⟩, ⟨.saxZpY zp, 0x97, .zpY zp, 4⟩] : List TableLine),
      l.Right .sax ∧
      (let a := resolve l.operand s
       exec l.instr s = .next { busWrite a.payload (s.cpu.a &&& s.cpu.x) a.state with
         cycles := cost s.cfg l.opcode .sax l.operand.mode a.extra false }))

/-- TAX, TAY, TXA, TYA, TSX copy a register with N and Z; TXS writes SP and no flag (R406, R407, R408, R409, R410,
R411). -/
def Obligations.TransfersCopyTheirRegister : Prop :=
  ∀ (s : State),
    (∀ l ∈ ([⟨.tax, 0xAA, .implied, 2⟩] : List TableLine),
      l.Right .tax ∧
      exec l.instr s = .next { s with
        cpu := { s.cpu with x := s.cpu.a, p := { s.cpu.p with n := (s.cpu.a).getLsbD 7, z := s.cpu.a == 0 } }
        cycles := cost s.cfg l.opcode .tax .implied false false }) ∧
    (∀ l ∈ ([⟨.tay, 0xA8, .implied, 2⟩] : List TableLine),
      l.Right .tay ∧
      exec l.instr s = .next { s with
        cpu := { s.cpu with y := s.cpu.a, p := { s.cpu.p with n := (s.cpu.a).getLsbD 7, z := s.cpu.a == 0 } }
        cycles := cost s.cfg l.opcode .tay .implied false false }) ∧
    (∀ l ∈ ([⟨.txa, 0x8A, .implied, 2⟩] : List TableLine),
      l.Right .txa ∧
      exec l.instr s = .next { s with
        cpu := { s.cpu with a := s.cpu.x, p := { s.cpu.p with n := (s.cpu.x).getLsbD 7, z := s.cpu.x == 0 } }
        cycles := cost s.cfg l.opcode .txa .implied false false }) ∧
    (∀ l ∈ ([⟨.tya, 0x98, .implied, 2⟩] : List TableLine),
      l.Right .tya ∧
      exec l.instr s = .next { s with
        cpu := { s.cpu with a := s.cpu.y, p := { s.cpu.p with n := (s.cpu.y).getLsbD 7, z := s.cpu.y == 0 } }
        cycles := cost s.cfg l.opcode .tya .implied false false }) ∧
    (∀ l ∈ ([⟨.tsx, 0xBA, .implied, 2⟩] : List TableLine),
      l.Right .tsx ∧
      exec l.instr s = .next { s with
        cpu := { s.cpu with x := s.cpu.sp, p := { s.cpu.p with n := (s.cpu.sp).getLsbD 7, z := s.cpu.sp == 0 } }
        cycles := cost s.cfg l.opcode .tsx .implied false false }) ∧
    (∀ l ∈ ([⟨.txs, 0x9A, .implied, 2⟩] : List TableLine),
      l.Right .txs ∧
      exec l.instr s = .next { s with
        cpu := { s.cpu with sp := s.cpu.x }
        cycles := cost s.cfg l.opcode .txs .implied false false })

/-- ADC and SBC in every form: A, N, V, Z and C by the formulas of R430, SBC with the operand complemented (R430,
R431). -/
def Obligations.AddAndSubtractWithCarry : Prop :=
  ∀ (v zp : Byte) (w : Word) (s : State),
    (∀ l ∈ ([⟨.adcIndX zp, 0x61, .indX zp, 6⟩, ⟨.adcZp zp, 0x65, .zp zp, 3⟩,
              ⟨.adcImm v, 0x69, .imm v, 2⟩, ⟨.adcAbs w, 0x6D, .abs w, 4⟩,
              ⟨.adcIndY zp, 0x71, .indY zp, 5⟩, ⟨.adcZpX zp, 0x75, .zpX zp, 4⟩,
              ⟨.adcAbsY w, 0x79, .absY w, 4⟩, ⟨.adcAbsX w, 0x7D, .absX w, 4⟩] : List TableLine),
      l.Right .adc ∧
      (let m := readOperand l.operand s
       let r := s.cpu.a.toNat + (m.1).toNat + s.cpu.p.c.toNat
       let r8 := BitVec.ofNat 8 r
       exec l.instr s = .next { m.2.2 with
         cpu := { s.cpu with
           a := r8
           p := { s.cpu.p with
             n := r8.getLsbD 7
             v := ((s.cpu.a ^^^ (m.1)) &&& 0x80 == 0) && ((s.cpu.a ^^^ r8) &&& 0x80 != 0)
             z := r8 == 0
             c := decide (0xFF < r) } }
         cycles := cost s.cfg l.opcode .adc l.operand.mode m.2.1 false })) ∧
    (∀ l ∈ ([⟨.sbcIndX zp, 0xE1, .indX zp, 6⟩, ⟨.sbcZp zp, 0xE5, .zp zp, 3⟩,
              ⟨.sbcImm v, 0xE9, .imm v, 2⟩, ⟨.sbcImmEB v, 0xEB, .imm v, 2⟩,
              ⟨.sbcAbs w, 0xED, .abs w, 4⟩, ⟨.sbcIndY zp, 0xF1, .indY zp, 5⟩,
              ⟨.sbcZpX zp, 0xF5, .zpX zp, 4⟩, ⟨.sbcAbsY w, 0xF9, .absY w, 4⟩,
              ⟨.sbcAbsX w, 0xFD, .absX w, 4⟩] : List TableLine),
      l.Right .sbc ∧
      (let m := readOperand l.operand s
       let r := s.cpu.a.toNat + (~~~m.1).toNat + s.cpu.p.c.toNat
       let r8 := BitVec.ofNat 8 r
       exec l.instr s = .next { m.2.2 with
         cpu := { s.cpu with
           a := r8
           p := { s.cpu.p with
             n := r8.getLsbD 7
             v := ((s.cpu.a ^^^ (~~~m.1)) &&& 0x80 == 0) && ((s.cpu.a ^^^ r8) &&& 0x80 != 0)
             z := r8 == 0
             c := decide (0xFF < r) } }
         cycles := cost s.cfg l.opcode .sbc l.operand.mode m.2.1 false }))

/-- AND, ORA and EOR in every form: A and its N and Z (R432, R433, R434). -/
def Obligations.LogicOnTheAccumulator : Prop :=
  ∀ (v zp : Byte) (w : Word) (s : State),
    (∀ l ∈ ([⟨.andIndX zp, 0x21, .indX zp, 6⟩, ⟨.andZp zp, 0x25, .zp zp, 3⟩,
              ⟨.andImm v, 0x29, .imm v, 2⟩, ⟨.andAbs w, 0x2D, .abs w, 4⟩,
              ⟨.andIndY zp, 0x31, .indY zp, 5⟩, ⟨.andZpX zp, 0x35, .zpX zp, 4⟩,
              ⟨.andAbsY w, 0x39, .absY w, 4⟩, ⟨.andAbsX w, 0x3D, .absX w, 4⟩] : List TableLine),
      l.Right .and ∧
      (let m := readOperand l.operand s
       let r := s.cpu.a &&& m.1
       exec l.instr s = .next { m.2.2 with
         cpu := { s.cpu with a := r, p := { s.cpu.p with n := (r).getLsbD 7, z := r == 0 } }
         cycles := cost s.cfg l.opcode .and l.operand.mode m.2.1 false })) ∧
    (∀ l ∈ ([⟨.oraIndX zp, 0x01, .indX zp, 6⟩, ⟨.oraZp zp, 0x05, .zp zp, 3⟩,
              ⟨.oraImm v, 0x09, .imm v, 2⟩, ⟨.oraAbs w, 0x0D, .abs w, 4⟩,
              ⟨.oraIndY zp, 0x11, .indY zp, 5⟩, ⟨.oraZpX zp, 0x15, .zpX zp, 4⟩,
              ⟨.oraAbsY w, 0x19, .absY w, 4⟩, ⟨.oraAbsX w, 0x1D, .absX w, 4⟩] : List TableLine),
      l.Right .ora ∧
      (let m := readOperand l.operand s
       let r := s.cpu.a ||| m.1
       exec l.instr s = .next { m.2.2 with
         cpu := { s.cpu with a := r, p := { s.cpu.p with n := (r).getLsbD 7, z := r == 0 } }
         cycles := cost s.cfg l.opcode .ora l.operand.mode m.2.1 false })) ∧
    (∀ l ∈ ([⟨.eorIndX zp, 0x41, .indX zp, 6⟩, ⟨.eorZp zp, 0x45, .zp zp, 3⟩,
              ⟨.eorImm v, 0x49, .imm v, 2⟩, ⟨.eorAbs w, 0x4D, .abs w, 4⟩,
              ⟨.eorIndY zp, 0x51, .indY zp, 5⟩, ⟨.eorZpX zp, 0x55, .zpX zp, 4⟩,
              ⟨.eorAbsY w, 0x59, .absY w, 4⟩, ⟨.eorAbsX w, 0x5D, .absX w, 4⟩] : List TableLine),
      l.Right .eor ∧
      (let m := readOperand l.operand s
       let r := s.cpu.a ^^^ m.1
       exec l.instr s = .next { m.2.2 with
         cpu := { s.cpu with a := r, p := { s.cpu.p with n := (r).getLsbD 7, z := r == 0 } }
         cycles := cost s.cfg l.opcode .eor l.operand.mode m.2.1 false }))

/-- CMP, CPX, CPY and BIT in every form: their flags and no register (R435, R436, R437, R438). -/
def Obligations.CompareAndBitTestFlags : Prop :=
  ∀ (v zp : Byte) (w : Word) (s : State),
    (∀ l ∈ ([⟨.cmpIndX zp, 0xC1, .indX zp, 6⟩, ⟨.cmpZp zp, 0xC5, .zp zp, 3⟩,
              ⟨.cmpImm v, 0xC9, .imm v, 2⟩, ⟨.cmpAbs w, 0xCD, .abs w, 4⟩,
              ⟨.cmpIndY zp, 0xD1, .indY zp, 5⟩, ⟨.cmpZpX zp, 0xD5, .zpX zp, 4⟩,
              ⟨.cmpAbsY w, 0xD9, .absY w, 4⟩, ⟨.cmpAbsX w, 0xDD, .absX w, 4⟩] : List TableLine),
      l.Right .cmp ∧
      (let m := readOperand l.operand s
       exec l.instr s = .next { m.2.2 with
         cpu := { s.cpu with p := { s.cpu.p with
             n := (s.cpu.a - m.1).getLsbD 7, z := s.cpu.a == m.1, c := decide (m.1.toNat ≤ s.cpu.a.toNat) } }
         cycles := cost s.cfg l.opcode .cmp l.operand.mode m.2.1 false })) ∧
    (∀ l ∈ ([⟨.cpxImm v, 0xE0, .imm v, 2⟩, ⟨.cpxZp zp, 0xE4, .zp zp, 3⟩,
              ⟨.cpxAbs w, 0xEC, .abs w, 4⟩] : List TableLine),
      l.Right .cpx ∧
      (let m := readOperand l.operand s
       exec l.instr s = .next { m.2.2 with
         cpu := { s.cpu with p := { s.cpu.p with
             n := (s.cpu.x - m.1).getLsbD 7, z := s.cpu.x == m.1, c := decide (m.1.toNat ≤ s.cpu.x.toNat) } }
         cycles := cost s.cfg l.opcode .cpx l.operand.mode m.2.1 false })) ∧
    (∀ l ∈ ([⟨.cpyImm v, 0xC0, .imm v, 2⟩, ⟨.cpyZp zp, 0xC4, .zp zp, 3⟩,
              ⟨.cpyAbs w, 0xCC, .abs w, 4⟩] : List TableLine),
      l.Right .cpy ∧
      (let m := readOperand l.operand s
       exec l.instr s = .next { m.2.2 with
         cpu := { s.cpu with p := { s.cpu.p with
             n := (s.cpu.y - m.1).getLsbD 7, z := s.cpu.y == m.1, c := decide (m.1.toNat ≤ s.cpu.y.toNat) } }
         cycles := cost s.cfg l.opcode .cpy l.operand.mode m.2.1 false })) ∧
    (∀ l ∈ ([⟨.bitZp zp, 0x24, .zp zp, 3⟩, ⟨.bitAbs w, 0x2C, .abs w, 4⟩] : List TableLine),
      l.Right .bit ∧
      (let m := readOperand l.operand s
       exec l.instr s = .next { m.2.2 with
         cpu := { s.cpu with p := { s.cpu.p with
             n := m.1.getLsbD 7, v := m.1.getLsbD 6, z := s.cpu.a &&& m.1 == 0 } }
         cycles := cost s.cfg l.opcode .bit l.operand.mode m.2.1 false }))

/-- INC and DEC read and write their byte once; INX, INY, DEX, DEY step their register; N and Z only (R439, R440,
R441, R442, R443, R444). -/
def Obligations.IncrementAndDecrement : Prop :=
  ∀ (zp : Byte) (w : Word) (s : State),
    (∀ l ∈ ([⟨.incZp zp, 0xE6, .zp zp, 5⟩, ⟨.incAbs w, 0xEE, .abs w, 6⟩,
              ⟨.incZpX zp, 0xF6, .zpX zp, 6⟩, ⟨.incAbsX w, 0xFE, .absX w, 7⟩] : List TableLine),
      l.Right .inc ∧
      (let a := resolve l.operand s
       let m := busRead a.payload a.state
       let r := m.1 + 1
       exec l.instr s = .next { busWrite a.payload r m.2 with
         cpu := { s.cpu with p := { s.cpu.p with n := (r).getLsbD 7, z := r == 0 } }
         cycles := cost s.cfg l.opcode .inc l.operand.mode a.extra false })) ∧
    (∀ l ∈ ([⟨.decZp zp, 0xC6, .zp zp, 5⟩, ⟨.decAbs w, 0xCE, .abs w, 6⟩,
              ⟨.decZpX zp, 0xD6, .zpX zp, 6⟩, ⟨.decAbsX w, 0xDE, .absX w, 7⟩] : List TableLine),
      l.Right .dec ∧
      (let a := resolve l.operand s
       let m := busRead a.payload a.state
       let r := m.1 - 1
       exec l.instr s = .next { busWrite a.payload r m.2 with
         cpu := { s.cpu with p := { s.cpu.p with n := (r).getLsbD 7, z := r == 0 } }
         cycles := cost s.cfg l.opcode .dec l.operand.mode a.extra false })) ∧
    (∀ l ∈ ([⟨.inx, 0xE8, .implied, 2⟩] : List TableLine),
      l.Right .inx ∧
      exec l.instr s = .next { s with
        cpu := { s.cpu with x := s.cpu.x + 1, p := { s.cpu.p with n := ((s.cpu.x + 1)).getLsbD 7, z := (s.cpu.x + 1) == 0 } }
        cycles := cost s.cfg l.opcode .inx .implied false false }) ∧
    (∀ l ∈ ([⟨.iny, 0xC8, .implied, 2⟩] : List TableLine),
      l.Right .iny ∧
      exec l.instr s = .next { s with
        cpu := { s.cpu with y := s.cpu.y + 1, p := { s.cpu.p with n := ((s.cpu.y + 1)).getLsbD 7, z := (s.cpu.y + 1) == 0 } }
        cycles := cost s.cfg l.opcode .iny .implied false false }) ∧
    (∀ l ∈ ([⟨.dex, 0xCA, .implied, 2⟩] : List TableLine),
      l.Right .dex ∧
      exec l.instr s = .next { s with
        cpu := { s.cpu with x := s.cpu.x - 1, p := { s.cpu.p with n := ((s.cpu.x - 1)).getLsbD 7, z := (s.cpu.x - 1) == 0 } }
        cycles := cost s.cfg l.opcode .dex .implied false false }) ∧
    (∀ l ∈ ([⟨.dey, 0x88, .implied, 2⟩] : List TableLine),
      l.Right .dey ∧
      exec l.instr s = .next { s with
        cpu := { s.cpu with y := s.cpu.y - 1, p := { s.cpu.p with n := ((s.cpu.y - 1)).getLsbD 7, z := (s.cpu.y - 1) == 0 } }
        cycles := cost s.cfg l.opcode .dey .implied false false })

/-- ASL, LSR, ROL and ROR on A and on memory: result, C, N and Z (R460, R461, R462, R463). -/
def Obligations.ShiftsAndRotates : Prop :=
  ∀ (zp : Byte) (w : Word) (s : State),
    (∀ l ∈ ([⟨.aslAcc, 0x0A, .accumulator, 2⟩] : List TableLine),
      l.Right .asl ∧
      (let r := s.cpu.a <<< 1
       exec l.instr s = .next { s with
         cpu := { s.cpu with a := r, p := { s.cpu.p with n := r.getLsbD 7, z := r == 0, c := s.cpu.a.getLsbD 7 } }
         cycles := cost s.cfg l.opcode .asl .accumulator false false })) ∧
    (∀ l ∈ ([⟨.aslZp zp, 0x06, .zp zp, 5⟩, ⟨.aslAbs w, 0x0E, .abs w, 6⟩,
              ⟨.aslZpX zp, 0x16, .zpX zp, 6⟩, ⟨.aslAbsX w, 0x1E, .absX w, 7⟩] : List TableLine),
      l.Right .asl ∧
      (let a := resolve l.operand s
       let m := busRead a.payload a.state
       let r := m.1 <<< 1
       exec l.instr s = .next { busWrite a.payload r m.2 with
         cpu := { s.cpu with p := { s.cpu.p with n := r.getLsbD 7, z := r == 0, c := m.1.getLsbD 7 } }
         cycles := cost s.cfg l.opcode .asl l.operand.mode a.extra false })) ∧
    (∀ l ∈ ([⟨.lsrAcc, 0x4A, .accumulator, 2⟩] : List TableLine),
      l.Right .lsr ∧
      (let r := s.cpu.a >>> 1
       exec l.instr s = .next { s with
         cpu := { s.cpu with a := r, p := { s.cpu.p with n := false, z := r == 0, c := s.cpu.a.getLsbD 0 } }
         cycles := cost s.cfg l.opcode .lsr .accumulator false false })) ∧
    (∀ l ∈ ([⟨.lsrZp zp, 0x46, .zp zp, 5⟩, ⟨.lsrAbs w, 0x4E, .abs w, 6⟩,
              ⟨.lsrZpX zp, 0x56, .zpX zp, 6⟩, ⟨.lsrAbsX w, 0x5E, .absX w, 7⟩] : List TableLine),
      l.Right .lsr ∧
      (let a := resolve l.operand s
       let m := busRead a.payload a.state
       let r := m.1 >>> 1
       exec l.instr s = .next { busWrite a.payload r m.2 with
         cpu := { s.cpu with p := { s.cpu.p with n := false, z := r == 0, c := m.1.getLsbD 0 } }
         cycles := cost s.cfg l.opcode .lsr l.operand.mode a.extra false })) ∧
    (∀ l ∈ ([⟨.rolAcc, 0x2A, .accumulator, 2⟩] : List TableLine),
      l.Right .rol ∧
      (let r := s.cpu.a <<< 1 ||| (BitVec.ofBool s.cpu.p.c).setWidth 8
       exec l.instr s = .next { s with
         cpu := { s.cpu with a := r, p := { s.cpu.p with n := r.getLsbD 7, z := r == 0, c := s.cpu.a.getLsbD 7 } }
         cycles := cost s.cfg l.opcode .rol .accumulator false false })) ∧
    (∀ l ∈ ([⟨.rolZp zp, 0x26, .zp zp, 5⟩, ⟨.rolAbs w, 0x2E, .abs w, 6⟩,
              ⟨.rolZpX zp, 0x36, .zpX zp, 6⟩, ⟨.rolAbsX w, 0x3E, .absX w, 7⟩] : List TableLine),
      l.Right .rol ∧
      (let a := resolve l.operand s
       let m := busRead a.payload a.state
       let r := m.1 <<< 1 ||| (BitVec.ofBool s.cpu.p.c).setWidth 8
       exec l.instr s = .next { busWrite a.payload r m.2 with
         cpu := { s.cpu with p := { s.cpu.p with n := r.getLsbD 7, z := r == 0, c := m.1.getLsbD 7 } }
         cycles := cost s.cfg l.opcode .rol l.operand.mode a.extra false })) ∧
    (∀ l ∈ ([⟨.rorAcc, 0x6A, .accumulator, 2⟩] : List TableLine),
      l.Right .ror ∧
      (let r := s.cpu.a >>> 1 ||| (BitVec.ofBool s.cpu.p.c).setWidth 8 <<< 7
       exec l.instr s = .next { s with
         cpu := { s.cpu with a := r, p := { s.cpu.p with n := s.cpu.p.c, z := r == 0, c := s.cpu.a.getLsbD 0 } }
         cycles := cost s.cfg l.opcode .ror .accumulator false false })) ∧
    (∀ l ∈ ([⟨.rorZp zp, 0x66, .zp zp, 5⟩, ⟨.rorAbs w, 0x6E, .abs w, 6⟩,
              ⟨.rorZpX zp, 0x76, .zpX zp, 6⟩, ⟨.rorAbsX w, 0x7E, .absX w, 7⟩] : List TableLine),
      l.Right .ror ∧
      (let a := resolve l.operand s
       let m := busRead a.payload a.state
       let r := m.1 >>> 1 ||| (BitVec.ofBool s.cpu.p.c).setWidth 8 <<< 7
       exec l.instr s = .next { busWrite a.payload r m.2 with
         cpu := { s.cpu with p := { s.cpu.p with n := s.cpu.p.c, z := r == 0, c := m.1.getLsbD 0 } }
         cycles := cost s.cfg l.opcode .ror l.operand.mode a.extra false }))

/-- SLO, RLA and SRE in every form: the shifted byte stored once, A combined with it (R464, R465, R466). -/
def Obligations.ShiftThenLogicCompositions : Prop :=
  ∀ (zp : Byte) (w : Word) (s : State),
    (∀ l ∈ ([⟨.sloIndX zp, 0x03, .indX zp, 8⟩, ⟨.sloZp zp, 0x07, .zp zp, 5⟩,
              ⟨.sloAbs w, 0x0F, .abs w, 6⟩, ⟨.sloIndY zp, 0x13, .indY zp, 8⟩,
              ⟨.sloZpX zp, 0x17, .zpX zp, 6⟩, ⟨.sloAbsY w, 0x1B, .absY w, 7⟩,
              ⟨.sloAbsX w, 0x1F, .absX w, 7⟩] : List TableLine),
      l.Right .slo ∧
      (let a := resolve l.operand s
       let m := busRead a.payload a.state
       let r := m.1 <<< 1
       let q := s.cpu.a ||| r
       exec l.instr s = .next { busWrite a.payload r m.2 with
         cpu := { s.cpu with
           a := q
           p := { s.cpu.p with n := q.getLsbD 7, z := q == 0, c := m.1.getLsbD 7 } }
         cycles := cost s.cfg l.opcode .slo l.operand.mode a.extra false })) ∧
    (∀ l ∈ ([⟨.rlaIndX zp, 0x23, .indX zp, 8⟩, ⟨.rlaZp zp, 0x27, .zp zp, 5⟩,
              ⟨.rlaAbs w, 0x2F, .abs w, 6⟩, ⟨.rlaIndY zp, 0x33, .indY zp, 8⟩,
              ⟨.rlaZpX zp, 0x37, .zpX zp, 6⟩, ⟨.rlaAbsY w, 0x3B, .absY w, 7⟩,
              ⟨.rlaAbsX w, 0x3F, .absX w, 7⟩] : List TableLine),
      l.Right .rla ∧
      (let a := resolve l.operand s
       let m := busRead a.payload a.state
       let r := m.1 <<< 1 ||| (BitVec.ofBool s.cpu.p.c).setWidth 8
       let q := s.cpu.a &&& r
       exec l.instr s = .next { busWrite a.payload r m.2 with
         cpu := { s.cpu with
           a := q
           p := { s.cpu.p with n := q.getLsbD 7, z := q == 0, c := m.1.getLsbD 7 } }
         cycles := cost s.cfg l.opcode .rla l.operand.mode a.extra false })) ∧
    (∀ l ∈ ([⟨.sreIndX zp, 0x43, .indX zp, 8⟩, ⟨.sreZp zp, 0x47, .zp zp, 5⟩,
              ⟨.sreAbs w, 0x4F, .abs w, 6⟩, ⟨.sreIndY zp, 0x53, .indY zp, 8⟩,
              ⟨.sreZpX zp, 0x57, .zpX zp, 6⟩, ⟨.sreAbsY w, 0x5B, .absY w, 7⟩,
              ⟨.sreAbsX w, 0x5F, .absX w, 7⟩] : List TableLine),
      l.Right .sre ∧
      (let a := resolve l.operand s
       let m := busRead a.payload a.state
       let r := m.1 >>> 1
       let q := s.cpu.a ^^^ r
       exec l.instr s = .next { busWrite a.payload r m.2 with
         cpu := { s.cpu with
           a := q
           p := { s.cpu.p with n := q.getLsbD 7, z := q == 0, c := m.1.getLsbD 0 } }
         cycles := cost s.cfg l.opcode .sre l.operand.mode a.extra false }))

/-- RRA, DCP and ISB in every form: the new byte stored once, then added, compared or subtracted (R467, R468, R469).
-/
def Obligations.StepThenArithmeticCompositions : Prop :=
  ∀ (zp : Byte) (w : Word) (s : State),
    (∀ l ∈ ([⟨.rraIndX zp, 0x63, .indX zp, 8⟩, ⟨.rraZp zp, 0x67, .zp zp, 5⟩,
              ⟨.rraAbs w, 0x6F, .abs w, 6⟩, ⟨.rraIndY zp, 0x73, .indY zp, 8⟩,
              ⟨.rraZpX zp, 0x77, .zpX zp, 6⟩, ⟨.rraAbsY w, 0x7B, .absY w, 7⟩,
              ⟨.rraAbsX w, 0x7F, .absX w, 7⟩] : List TableLine),
      l.Right .rra ∧
      (let a := resolve l.operand s
       let m := busRead a.payload a.state
       let r := m.1 >>> 1 ||| (BitVec.ofBool s.cpu.p.c).setWidth 8 <<< 7
       let t := s.cpu.a.toNat + (r).toNat + (m.1.getLsbD 0).toNat
       let t8 := BitVec.ofNat 8 t
       exec l.instr s = .next { busWrite a.payload r m.2 with
         cpu := { s.cpu with
           a := t8
           p := { s.cpu.p with
             n := t8.getLsbD 7
             v := ((s.cpu.a ^^^ (r)) &&& 0x80 == 0) && ((s.cpu.a ^^^ t8) &&& 0x80 != 0)
             z := t8 == 0
             c := decide (0xFF < t) } }
         cycles := cost s.cfg l.opcode .rra l.operand.mode a.extra false })) ∧
    (∀ l ∈ ([⟨.dcpIndX zp, 0xC3, .indX zp, 8⟩, ⟨.dcpZp zp, 0xC7, .zp zp, 5⟩,
              ⟨.dcpAbs w, 0xCF, .abs w, 6⟩, ⟨.dcpIndY zp, 0xD3, .indY zp, 8⟩,
              ⟨.dcpZpX zp, 0xD7, .zpX zp, 6⟩, ⟨.dcpAbsY w, 0xDB, .absY w, 7⟩,
              ⟨.dcpAbsX w, 0xDF, .absX w, 7⟩] : List TableLine),
      l.Right .dcp ∧
      (let a := resolve l.operand s
       let m := busRead a.payload a.state
       let r := m.1 - 1
       exec l.instr s = .next { busWrite a.payload r m.2 with
         cpu := { s.cpu with p := { s.cpu.p with
             n := (s.cpu.a - r).getLsbD 7, z := s.cpu.a == r, c := decide (r.toNat ≤ s.cpu.a.toNat) } }
         cycles := cost s.cfg l.opcode .dcp l.operand.mode a.extra false })) ∧
    (∀ l ∈ ([⟨.isbIndX zp, 0xE3, .indX zp, 8⟩, ⟨.isbZp zp, 0xE7, .zp zp, 5⟩,
              ⟨.isbAbs w, 0xEF, .abs w, 6⟩, ⟨.isbIndY zp, 0xF3, .indY zp, 8⟩,
              ⟨.isbZpX zp, 0xF7, .zpX zp, 6⟩, ⟨.isbAbsY w, 0xFB, .absY w, 7⟩,
              ⟨.isbAbsX w, 0xFF, .absX w, 7⟩] : List TableLine),
      l.Right .isb ∧
      (let a := resolve l.operand s
       let m := busRead a.payload a.state
       let r := m.1 + 1
       let t := s.cpu.a.toNat + (~~~r).toNat + s.cpu.p.c.toNat
       let t8 := BitVec.ofNat 8 t
       exec l.instr s = .next { busWrite a.payload r m.2 with
         cpu := { s.cpu with
           a := t8
           p := { s.cpu.p with
             n := t8.getLsbD 7
             v := ((s.cpu.a ^^^ (~~~r)) &&& 0x80 == 0) && ((s.cpu.a ^^^ t8) &&& 0x80 != 0)
             z := t8 == 0
             c := decide (0xFF < t) } }
         cycles := cost s.cfg l.opcode .isb l.operand.mode a.extra false }))

/-- The eight branches: PC becomes the target exactly when the flag condition holds, at the cost of R490 (R490, R491,
R492, R493, R494, R495, R496, R497, R498). -/
def Obligations.BranchesFollowTheirFlag : Prop :=
  ∀ (off : Byte) (s : State),
    ∀ x ∈ ([(⟨.bcc off, 0x90, .rel off, 2⟩, .bcc, !s.cpu.p.c),
      (⟨.bcs off, 0xB0, .rel off, 2⟩, .bcs, s.cpu.p.c),
      (⟨.beq off, 0xF0, .rel off, 2⟩, .beq, s.cpu.p.z),
      (⟨.bne off, 0xD0, .rel off, 2⟩, .bne, !s.cpu.p.z),
      (⟨.bmi off, 0x30, .rel off, 2⟩, .bmi, s.cpu.p.n),
      (⟨.bpl off, 0x10, .rel off, 2⟩, .bpl, !s.cpu.p.n),
      (⟨.bvc off, 0x50, .rel off, 2⟩, .bvc, !s.cpu.p.v),
      (⟨.bvs off, 0x70, .rel off, 2⟩, .bvs, s.cpu.p.v)] :
        List (TableLine × Mnemonic × Bool)),
      let l := x.1
      let taken := x.2.2
      let target := s.cpu.pc + off.signExtend 16
      let ref := match s.cfg.branchCrossBase with
        | .opcodeAddr => s.cpu.pc - 2
        | .nextPC => s.cpu.pc
      let charge := if target.toNat / 256 = ref.toNat / 256 then 0 else
        match s.cfg.pageCrossPolicy with
        | .coarse => 1
        | .strict => taken.toNat
      l.Right x.2.1 ∧
      exec l.instr s = .next { s with
        cpu := { s.cpu with pc := if taken then target else s.cpu.pc }
        cycles := s.cfg.baseCyclesOf l.opcode + charge + taken.toNat }

/-- JMP, JSR and RTS: PC, the pushed return address and SP (R499, R500, R501). -/
def Obligations.JumpsCallsAndReturns : Prop :=
  ∀ (w : Word) (s : State),
    (∀ l ∈ ([⟨.jmpAbs w, 0x4C, .abs w, 3⟩] : List TableLine), l.Right .jmp ∧
      exec l.instr s = .next { s with
        cpu := { s.cpu with pc := w }, cycles := cost s.cfg 0x4C .jmp .absolute false false }) ∧
    (∀ l ∈ ([⟨.jmpInd w, 0x6C, .ind w, 5⟩] : List TableLine), l.Right .jmp ∧
      (let lo := busRead w s
       let hi := busRead (hiByte w ++ (loByte w + 1)) lo.2
       exec l.instr s = .next { hi.2 with
         cpu := { s.cpu with pc := hi.1 ++ lo.1 }, cycles := cost s.cfg 0x6C .jmp .indirect false false })) ∧
    (∀ l ∈ ([⟨.jsr w, 0x20, .abs w, 6⟩] : List TableLine), l.Right .jsr ∧
      (let ret := s.cpu.pc - 1
       exec l.instr s = .next { s with
         ram := (s.ram.write (0x100 + s.cpu.sp.toNat) (hiByte ret)).write (0x100 + (s.cpu.sp - 1).toNat) (loByte ret)
         cpu := { s.cpu with sp := s.cpu.sp - 2, pc := w }
         cycles := cost s.cfg 0x20 .jsr .absolute false false })) ∧
    (∀ l ∈ ([⟨.rts, 0x60, .implied, 6⟩] : List TableLine), l.Right .rts ∧
      exec l.instr s = .next { s with
        cpu := { s.cpu with
          sp := s.cpu.sp + 2
          pc := (s.ram.read (0x100 + (s.cpu.sp + 2).toNat) ++ s.ram.read (0x100 + (s.cpu.sp + 1).toNat)) + 1 }
        cycles := cost s.cfg 0x60 .rts .implied false false })

/-- BRK pushes PC + 1 and the status with B and enters through $FFFE; RTI pops status, then PC (R502, R503). -/
def Obligations.BreakEntersAndRtiReturns : Prop :=
  ∀ (s : State),
    (∀ l ∈ ([⟨.brk, 0x00, .implied, 7⟩] : List TableLine), l.Right .brk ∧
      (let ret := s.cpu.pc + 1
       exec l.instr s = .next { s with
         ram := ((s.ram.write (0x100 + s.cpu.sp.toNat) (hiByte ret)).write
           (0x100 + (s.cpu.sp - 1).toNat) (loByte ret)).write
           (0x100 + (s.cpu.sp - 2).toNat) ({ s.cpu.p with b := true } : Status).pack
         cpu := { s.cpu with
           sp := s.cpu.sp - 3, p := { s.cpu.p with b := true, i := true }, pc := (readWord 0xFFFE s).1 }
         cycles := cost s.cfg 0x00 .brk .implied false false })) ∧
    (∀ l ∈ ([⟨.rti, 0x40, .implied, 6⟩] : List TableLine), l.Right .rti ∧
      (let st := s.ram.read (0x100 + (s.cpu.sp + 1).toNat)
       exec l.instr s = .next { s with
         cpu := { s.cpu with
           sp := s.cpu.sp + 3
           p := { n := st.getLsbD 7, v := st.getLsbD 6, r := true, b := st.getLsbD 4,
                  d := st.getLsbD 3, i := st.getLsbD 2, z := st.getLsbD 1, c := st.getLsbD 0 }
           pc := s.ram.read (0x100 + (s.cpu.sp + 3).toNat) ++ s.ram.read (0x100 + (s.cpu.sp + 2).toNat) }
         cycles := cost s.cfg 0x40 .rti .implied false false }))

/-- PHA, PHP, PLA and PLP: the stack byte at $0100 | SP, SP, and the pulled register or status (R102, R520, R521,
R522, R523). -/
def Obligations.StackPushesAndPulls : Prop :=
  ∀ (s : State),
    (∀ v : Byte, push v s =
      { s with ram := s.ram.write (0x100 + s.cpu.sp.toNat) v, cpu := { s.cpu with sp := s.cpu.sp - 1 } }) ∧
    (pop s = (s.ram.read (0x100 + (s.cpu.sp + 1).toNat), { s with cpu := { s.cpu with sp := s.cpu.sp + 1 } })) ∧
    (∀ l ∈ ([⟨.pha, 0x48, .implied, 3⟩] : List TableLine), l.Right .pha ∧
      exec l.instr s = .next { s with
        ram := s.ram.write (0x100 + s.cpu.sp.toNat) s.cpu.a
        cpu := { s.cpu with sp := s.cpu.sp - 1 }
        cycles := cost s.cfg 0x48 .pha .implied false false }) ∧
    (∀ l ∈ ([⟨.php, 0x08, .implied, 3⟩] : List TableLine), l.Right .php ∧
      exec l.instr s = .next { s with
        ram := s.ram.write (0x100 + s.cpu.sp.toNat) s.cpu.p.pack
        cpu := { s.cpu with sp := s.cpu.sp - 1 }
        cycles := cost s.cfg 0x08 .php .implied false false }) ∧
    (∀ l ∈ ([⟨.pla, 0x68, .implied, 4⟩] : List TableLine), l.Right .pla ∧
      (let v := s.ram.read (0x100 + (s.cpu.sp + 1).toNat)
       exec l.instr s = .next { s with
         cpu := { s.cpu with a := v, sp := s.cpu.sp + 1, p := { s.cpu.p with n := v.getLsbD 7, z := v == 0 } }
         cycles := cost s.cfg 0x68 .pla .implied false false })) ∧
    (∀ l ∈ ([⟨.plp, 0x28, .implied, 4⟩] : List TableLine), l.Right .plp ∧
      (let v := s.ram.read (0x100 + (s.cpu.sp + 1).toNat)
       exec l.instr s = .next { s with
         cpu := { s.cpu with
           sp := s.cpu.sp + 1
           p := { n := v.getLsbD 7, v := v.getLsbD 6, r := true, b := v.getLsbD 4,
                  d := v.getLsbD 3, i := v.getLsbD 2, z := v.getLsbD 1, c := v.getLsbD 0 } }
         cycles := cost s.cfg 0x28 .plp .implied false false }))

/-- CLC, SEC, CLI, SEI, CLV, CLD, SED write their one flag; the 28 NOP rows change nothing but the cycle count (R524,
R525, R526, R527, R528, R529, R530, R531). -/
def Obligations.FlagInstructionsAndNops : Prop :=
  ∀ (v zp : Byte) (w : Word) (s : State),
    (∀ l ∈ ([⟨.clc, 0x18, .implied, 2⟩] : List TableLine),
      l.Right .clc ∧
      exec l.instr s = .next { s with
        cpu := { s.cpu with p := { s.cpu.p with c := false } }
        cycles := cost s.cfg l.opcode .clc .implied false false }) ∧
    (∀ l ∈ ([⟨.sec, 0x38, .implied, 2⟩] : List TableLine),
      l.Right .sec ∧
      exec l.instr s = .next { s with
        cpu := { s.cpu with p := { s.cpu.p with c := true } }
        cycles := cost s.cfg l.opcode .sec .implied false false }) ∧
    (∀ l ∈ ([⟨.cli, 0x58, .implied, 2⟩] : List TableLine),
      l.Right .cli ∧
      exec l.instr s = .next { s with
        cpu := { s.cpu with p := { s.cpu.p with i := false } }
        cycles := cost s.cfg l.opcode .cli .implied false false }) ∧
    (∀ l ∈ ([⟨.sei, 0x78, .implied, 2⟩] : List TableLine),
      l.Right .sei ∧
      exec l.instr s = .next { s with
        cpu := { s.cpu with p := { s.cpu.p with i := true } }
        cycles := cost s.cfg l.opcode .sei .implied false false }) ∧
    (∀ l ∈ ([⟨.clv, 0xB8, .implied, 2⟩] : List TableLine),
      l.Right .clv ∧
      exec l.instr s = .next { s with
        cpu := { s.cpu with p := { s.cpu.p with v := false } }
        cycles := cost s.cfg l.opcode .clv .implied false false }) ∧
    (∀ l ∈ ([⟨.cld, 0xD8, .implied, 2⟩] : List TableLine),
      l.Right .cld ∧
      exec l.instr s = .next { s with
        cpu := { s.cpu with p := { s.cpu.p with d := false } }
        cycles := cost s.cfg l.opcode .cld .implied false false }) ∧
    (∀ l ∈ ([⟨.sed, 0xF8, .implied, 2⟩] : List TableLine),
      l.Right .sed ∧
      exec l.instr s = .next { s with
        cpu := { s.cpu with p := { s.cpu.p with d := true } }
        cycles := cost s.cfg l.opcode .sed .implied false false }) ∧
    (∀ l ∈ ([⟨.nopZp04 zp, 0x04, .zp zp, 3⟩, ⟨.nopAbs0C w, 0x0C, .abs w, 4⟩,
              ⟨.nopZpX14 zp, 0x14, .zpX zp, 4⟩, ⟨.nop1A, 0x1A, .implied, 2⟩,
              ⟨.nopAbsX1C w, 0x1C, .absX w, 4⟩, ⟨.nopZpX34 zp, 0x34, .zpX zp, 4⟩,
              ⟨.nop3A, 0x3A, .implied, 2⟩, ⟨.nopAbsX3C w, 0x3C, .absX w, 4⟩,
              ⟨.nopZp44 zp, 0x44, .zp zp, 3⟩, ⟨.nopZpX54 zp, 0x54, .zpX zp, 4⟩,
              ⟨.nop5A, 0x5A, .implied, 2⟩, ⟨.nopAbsX5C w, 0x5C, .absX w, 4⟩,
              ⟨.nopZp64 zp, 0x64, .zp zp, 3⟩, ⟨.nopZpX74 zp, 0x74, .zpX zp, 4⟩,
              ⟨.nop7A, 0x7A, .implied, 2⟩, ⟨.nopAbsX7C w, 0x7C, .absX w, 4⟩,
              ⟨.nopImm80 v, 0x80, .imm v, 2⟩, ⟨.nopImm82 v, 0x82, .imm v, 2⟩,
              ⟨.nopImm89 v, 0x89, .imm v, 2⟩, ⟨.nopImmC2 v, 0xC2, .imm v, 2⟩,
              ⟨.nopZpXD4 zp, 0xD4, .zpX zp, 4⟩, ⟨.nopDA, 0xDA, .implied, 2⟩,
              ⟨.nopAbsXDC w, 0xDC, .absX w, 4⟩, ⟨.nopImmE2 v, 0xE2, .imm v, 2⟩,
              ⟨.nop, 0xEA, .implied, 2⟩, ⟨.nopZpXF4 zp, 0xF4, .zpX zp, 4⟩,
              ⟨.nopFA, 0xFA, .implied, 2⟩, ⟨.nopAbsXFC w, 0xFC, .absX w, 4⟩] : List TableLine),
      l.Right .nop ∧
      exec l.instr s = .next { s with
        cycles := cost s.cfg l.opcode .nop l.operand.mode (resolve l.operand s).extra false })

/-- The 25 UNDEF bytes record OpcodeNotImplemented in a next state and every later step answers that fault: a split
that is the choice of log 5, DEDUCED (44_stack_status_misc.md R532, 10_state.md R108, 60_exceptions.md R601). -/
def Obligations.UndefinedOpcodesFault : Prop :=
  (∀ op : Byte, (tableEntry op).1 = .undef ↔
    op ∈ ([0x02, 0x12, 0x22, 0x32, 0x42, 0x52, 0x62, 0x72, 0x92, 0xB2, 0xD2, 0xF2, 0x0B, 0x2B, 0x4B, 0x6B,
          0x8B, 0xAB, 0xCB, 0x93, 0x9B, 0x9C, 0x9E, 0x9F, 0xBB] : List Byte)) ∧
  (∀ s : State, ∀ i ∈ ([.undef02, .undef0B, .undef12, .undef22, .undef2B, .undef32, .undef42, .undef4B, .undef52, .undef62,
          .undef6B, .undef72, .undef8B, .undef92, .undef93, .undef9B, .undef9C, .undef9E, .undef9F, .undefAB,
          .undefB2, .undefBB, .undefCB, .undefD2, .undefF2] : List Instr),
    i.row.mnemonic = .undef ∧ encode i = [i.row.opcode] ∧
    exec i s = .next { s with fault := some (.opcodeNotImplemented (s.cpu.pc - 1) i.row.opcode), cycles := 0 }) ∧
  (∀ (s : State) (f : Fault), s.fault = some f → step s = .fault f ∧ catchUp s = { s with frameOut := none })

/-- ADC and SBC as exact integer arithmetic: value, carry and signed overflow (41_arithmetic_logic.md R430,
41_arithmetic_logic.md R431). -/
def Obligations.AddAndSubtractAreExact : Prop :=
  ∀ (m : Byte) (s t : State),
    (exec (.adcImm m) s = .next t →
      256 * t.cpu.p.c.toNat + t.cpu.a.toNat = s.cpu.a.toNat + m.toNat + s.cpu.p.c.toNat ∧
      (t.cpu.p.v = true ↔
        s.cpu.a.toInt + m.toInt + s.cpu.p.c.toNat < -128 ∨ 127 < s.cpu.a.toInt + m.toInt + s.cpu.p.c.toNat)) ∧
    (exec (.sbcImm m) s = .next t →
      (t.cpu.a.toNat : Int) = ((s.cpu.a.toNat : Int) - m.toNat - (1 - s.cpu.p.c.toNat)) % 256 ∧
      (t.cpu.p.c = true ↔ m.toNat + 1 ≤ s.cpu.a.toNat + s.cpu.p.c.toNat) ∧
      (t.cpu.p.v = true ↔
        s.cpu.a.toInt - m.toInt - (1 - s.cpu.p.c.toNat) < -128 ∨
        127 < s.cpu.a.toInt - m.toInt - (1 - s.cpu.p.c.toNat)))

/-- Every addressing mode: its operand bytes, payload, extra cycle and pointer reads (R303, R304, R305, R306, R307,
R308, R309, R310, R311, R312). -/
def Obligations.AddressingModesCompute : Prop :=
  ∀ (b : Byte) (w : Word) (s : State),
    let x := s.cpu.x.toNat
    let y := s.cpu.y.toNat
    let pointer := fun z : Nat => (s.ram.read z).toNat + 256 * (s.ram.read ((z + 1) % 256)).toNat
    (Operand.implied.bytes = [] ∧ ResolvesTo .implied s 0 false s) ∧
    (Operand.accumulator.bytes = [] ∧ ResolvesTo .accumulator s 0 false s) ∧
    ((Operand.imm b).bytes = [b] ∧ ResolvesTo (.imm b) s b.toNat false s ∧ readOperand (.imm b) s = (b, false, s)) ∧
    ((Operand.zp b).bytes = [b] ∧ ResolvesTo (.zp b) s b.toNat false s) ∧
    ((Operand.zpX b).bytes = [b] ∧ ResolvesTo (.zpX b) s ((b.toNat + x) % 256) false s) ∧
    ((Operand.zpY b).bytes = [b] ∧ ResolvesTo (.zpY b) s ((b.toNat + y) % 256) false s) ∧
    ((∃ lo hi : Byte, (Operand.abs w).bytes = [lo, hi] ∧ (Operand.absX w).bytes = [lo, hi] ∧
      (Operand.absY w).bytes = [lo, hi] ∧ (Operand.ind w).bytes = [lo, hi] ∧ w.toNat = lo.toNat + 256 * hi.toNat) ∧
      ResolvesTo (.abs w) s w.toNat false s) ∧
    ResolvesTo (.absX w) s ((w.toNat + x) % 65536) (decide (w.toNat / 256 ≠ (w.toNat + x) % 65536 / 256)) s ∧
    ResolvesTo (.absY w) s ((w.toNat + y) % 65536) (decide (w.toNat / 256 ≠ (w.toNat + y) % 65536 / 256)) s ∧
    (let target := ((s.cpu.pc.toNat + b.toInt) % 65536).toNat
     let ref := match s.cfg.branchCrossBase with
       | .opcodeAddr => (s.cpu.pc - 2).toNat
       | .nextPC => s.cpu.pc.toNat
     (Operand.rel b).bytes = [b] ∧ ResolvesTo (.rel b) s target (decide (ref / 256 ≠ target / 256)) s) ∧
    ((Operand.indX b).bytes = [b] ∧ ResolvesTo (.indX b) s (pointer ((b.toNat + x) % 256)) false s) ∧
    (let target := (pointer b.toNat + y) % 65536
     (Operand.indY b).bytes = [b] ∧
       ResolvesTo (.indY b) s target (decide (pointer b.toNat / 256 ≠ target / 256)) s) ∧
    (let lo := busRead w s
     let hi := busRead (BitVec.ofNat 16 (w.toNat / 256 * 256 + (w.toNat + 1) % 256)) lo.2
     ResolvesTo (.ind w) s (lo.1.toNat + 256 * hi.1.toNat) false hi.2) ∧
    (∀ o : Operand, o.mode ≠ .immediate → readOperand o s =
      ((busRead (resolve o s).payload (resolve o s).state).1, (resolve o s).extra,
        (busRead (resolve o s).payload (resolve o s).state).2)) ∧
    (∀ i : Instr,
      (i.row.operand.mode = .zeroPageY → i.row.mnemonic ∈ ([.ldx, .stx, .lax, .sax] : List Mnemonic)) ∧
      (i.row.operand.mode = .relative ↔
        i.row.mnemonic ∈ ([.bcc, .bcs, .beq, .bne, .bmi, .bpl, .bvc, .bvs] : List Mnemonic)) ∧
      (i.row.operand.mode = .indirect → i.row.mnemonic = .jmp))

/-- The cycle count: base, page-cross charge, one for a taken branch; base 0 for a byte beyond a short table is the
model's choice (log 8, DESIGN CHOICE) (60_exceptions.md R602, 70_reset_and_hazards.md R720, 70_reset_and_hazards.md
R722). -/
def Obligations.CycleCostAndPageCrossCharge : Prop :=
  ∀ (cfg : Config) (op : Byte) (mn : Mnemonic) (mode : Mode) (extra hasBranched : Bool),
    charged cfg.pageCrossPolicy mn mode false hasBranched = 0 ∧
    charged .coarse mn mode true hasBranched = 1 ∧
    charged .strict mn .relative true hasBranched = hasBranched.toNat ∧
    (mode ≠ .relative → charged .strict mn mode true hasBranched =
      if mn ∈ ([.lda, .ldx, .ldy, .lax, .adc, .sbc, .and, .ora, .eor, .cmp, .nop] : List Mnemonic) then 1 else 0) ∧
    cost cfg op mn mode extra hasBranched =
      cfg.baseCycles.getD op.toNat 0 + charged cfg.pageCrossPolicy mn mode extra hasBranched + hasBranched.toNat

/-- Every iteration that records no fault reports at least two cycles, and at most nine with the default table unless
it is a DMA iteration (60_exceptions.md R602, 60_exceptions.md R642, 60_exceptions.md R661). -/
def Obligations.EveryIterationReportsAtLeastTwoCycles : Prop :=
  ∀ s t : State, s.cfg.wellFormed = true → step s = .next t → t.fault = none →
    2 ≤ t.cycles ∧
    (s.cfg.baseCycles = nmosBaseCycles → s.dma.pending = false → t.cycles ≤ 9) ∧
    (s.dma.pending = true → t.cycles = s.cfg.dmaStall.toNat)

/-- The status byte is N V 1 B D I Z C: packing, unpacking, and the round trip (R104). -/
def Obligations.StatusByteLayout : Prop :=
  (∀ p : Status,
    p.pack.getLsbD 7 = p.n ∧ p.pack.getLsbD 6 = p.v ∧ p.pack.getLsbD 5 = true ∧ p.pack.getLsbD 4 = p.b ∧
    p.pack.getLsbD 3 = p.d ∧ p.pack.getLsbD 2 = p.i ∧ p.pack.getLsbD 1 = p.z ∧ p.pack.getLsbD 0 = p.c ∧
    Status.unpack p.pack = { p with r := true }) ∧
  (∀ b : Byte, Status.unpack b =
    { n := b.getLsbD 7, v := b.getLsbD 6, r := true, b := b.getLsbD 4, d := b.getLsbD 3, i := b.getLsbD 2,
      z := b.getLsbD 1, c := b.getLsbD 0 }) ∧
  State.reset.cpu.p.r = true ∧
  (∀ (i : Instr) (s t : State), s.cpu.p.r = true → exec i s = .next t → t.cpu.p.r = true) ∧
  State.reset.cpu.p.b = true ∧ (∀ (vector : Word) (s : State), (dispatch vector s).cpu.p.b = false) ∧
  (∀ s : State, ∃ t, exec .brk s = .next t ∧ t.cpu.p.b = true) ∧
  (∀ s : State, ∃ t, exec .php s = .next t ∧ t.ram = s.ram.write (0x100 + s.cpu.sp.toNat) s.cpu.p.pack)

/-- The common interrupt entry: B cleared, PC and status pushed, I set, PC from the vector (R603, R608). -/
def Obligations.InterruptEntrySequence : Prop :=
  nmiVector = 0xFFFA ∧ resetVector = 0xFFFC ∧ irqVector = 0xFFFE ∧
  ∀ (s : State), ∀ vector ∈ ([nmiVector, irqVector] : List Word),
    let word := s.cfg.prg.read ((vector.toNat + 1 - 0x8000) % s.cfg.prgSize.bytes) ++
      s.cfg.prg.read ((vector.toNat - 0x8000) % s.cfg.prgSize.bytes)
    dispatch vector s = { s with
      ram := ((s.ram.write (0x100 + s.cpu.sp.toNat) (hiByte s.cpu.pc)).write
        (0x100 + (s.cpu.sp - 1).toNat) (loByte s.cpu.pc)).write
        (0x100 + (s.cpu.sp - 2).toNat) ({ s.cpu.p with b := false } : Status).pack
      cpu := { s.cpu with sp := s.cpu.sp - 3, p := { s.cpu.p with b := false, i := true }, pc := word } }

/-- NMI first and unmasked, IRQ only with I = 0, at most one dispatch, each line cleared by its own dispatch only
(60_exceptions.md R602, 60_exceptions.md R604, 60_exceptions.md R605, 60_exceptions.md R606). -/
def Obligations.InterruptPriorityAndMask : Prop :=
  ∀ s : State,
    (s.nmiLine = true → interruptCheck s = dispatch 0xFFFA { s with nmiLine := false } ∧
      (interruptCheck s).irqLine = s.irqLine ∧ (interruptCheck s).nmiLine = false) ∧
    (s.nmiLine = false → s.irqLine = true → s.cpu.p.i = false →
      interruptCheck s = dispatch 0xFFFE { s with irqLine := false } ∧ (interruptCheck s).irqLine = false) ∧
    (s.nmiLine = false → (s.irqLine = false ∨ s.cpu.p.i = true) → interruptCheck s = s)

/-- Up to 256 bytes pushed are pulled in reverse order, and SP returns to its value (44_stack_status_misc.md R521,
10_state.md R102). -/
def Obligations.PullsReverseThePushes : Prop :=
  ∀ (bs : List Byte) (s : State), bs.length ≤ 256 → s.ram.wf →
    popAll bs.length (pushAll bs s) = (bs.reverse, { s with ram := (pushAll bs s).ram })

/-- RTS undoes JSR, PLP undoes PHP, RTI undoes BRK and an interrupt entry (43_control_flow.md R500, 43_control_flow.md
R501, 44_stack_status_misc.md R523, 43_control_flow.md R503, 43_control_flow.md R502, 60_exceptions.md R603,
60_exceptions.md R607). -/
def Obligations.CallReturnAndStatusRoundTrips : Prop :=
  ∀ (w : Word) (s : State), s.ram.wf →
    (∃ t u, exec (.jsr w) s = .next t ∧ exec .rts t = .next u ∧ u.cpu = s.cpu) ∧
    (∃ t u, exec .php s = .next t ∧ exec .plp t = .next u ∧ u.cpu = { s.cpu with p := { s.cpu.p with r := true } }) ∧
    (∃ t u, exec .brk s = .next t ∧ exec .rti t = .next u ∧
      u.cpu = { s.cpu with pc := s.cpu.pc + 1, p := { s.cpu.p with b := true, r := true } }) ∧
    (s.nmiLine = true ∨ s.irqLine = true ∧ s.cpu.p.i = false →
      ∃ t, exec .rti (interruptCheck s) = .next t ∧
        t.cpu = { s.cpu with p := { s.cpu.p with b := false, r := true } })

/-- A CPU-bus read: work RAM, PPU register, controller, PRG, or 0, with the side effects of that target only (R204).
-/
def Obligations.CpuBusReadMap : Prop :=
  ∀ (a : Word) (s : State),
    let n := a.toNat
    (n ≤ 0x1FFF → busRead a s = (s.ram.read (n &&& 0x07FF), s)) ∧
    (0x2000 ≤ n → n ≤ 0x3FFF → busRead a s =
      ((ppuRegRead s.cfg (.ofIndex (n &&& 7)) s.ppu).1, { s with ppu := (ppuRegRead s.cfg (.ofIndex (n &&& 7)) s.ppu).2 })) ∧
    (n = 0x4016 → busRead a s = (s.pad.read.1, { s with pad := s.pad.read.2 })) ∧
    (0x4000 ≤ n → n ≤ 0x7FFF → n ≠ 0x4016 → busRead a s = (0, s)) ∧
    (0x8000 ≤ n → busRead a s = (s.cfg.prg.read ((n - 0x8000) % s.cfg.prgSize.bytes), s))

/-- A CPU-bus write: work RAM, PPU register, the DMA register, the controller, or no effect (R205). -/
def Obligations.CpuBusWriteMap : Prop :=
  ∀ (a : Word) (v : Byte) (s : State),
    let n := a.toNat
    (n ≤ 0x1FFF → busWrite a v s = { s with ram := s.ram.write (n &&& 0x07FF) v }) ∧
    (0x2000 ≤ n → n ≤ 0x3FFF → busWrite a v s = { s with ppu := ppuRegWrite s.cfg (.ofIndex (n &&& 7)) v s.ppu }) ∧
    (n = 0x4014 → busWrite a v s = { s with dma := { page := v, pending := true } }) ∧
    (n = 0x4016 → busWrite a v s = { s with pad := s.pad.write v }) ∧
    (0x4000 ≤ n → n ≠ 0x4014 → n ≠ 0x4016 → busWrite a v s = s)

/-- The mirrors of work RAM, of the PPU window and of a 16 KiB PRG image reach what their base address reaches (R206,
R207, R208). -/
def Obligations.MirrorsReachTheSamePlace : Prop :=
  ∀ (s : State) (v : Byte),
    (∀ a k : Nat, a < 0x800 → k ≤ 3 →
      let base := BitVec.ofNat 16 a
      let mirror := BitVec.ofNat 16 (a + 0x800 * k)
      busRead mirror s = (s.ram.read a, s) ∧ busWrite mirror v s = busWrite base v s ∧
      (s.ram.wf → (busRead mirror (busWrite base v s)).1 = v ∧ (busRead base (busWrite mirror v s)).1 = v)) ∧
    (∀ a k : Nat, 0x2000 ≤ a → a < 0x2008 → a + 8 * k < 0x4000 →
      busRead (BitVec.ofNat 16 (a + 8 * k)) s = busRead (BitVec.ofNat 16 a) s ∧
      busWrite (BitVec.ofNat 16 (a + 8 * k)) v s = busWrite (BitVec.ofNat 16 a) v s) ∧
    (∀ a : Nat, 0x8000 ≤ a → a < 0x10000 →
      busWrite (BitVec.ofNat 16 a) v s = s ∧
      (s.cfg.prgSize = .kib32 → busRead (BitVec.ofNat 16 a) s = (s.cfg.prg.read (a - 0x8000), s)) ∧
      (s.cfg.prgSize = .kib16 → busRead (BitVec.ofNat 16 a) s = (s.cfg.prg.read ((a - 0x8000) &&& 0x3FFF), s)) ∧
      (s.cfg.prgSize = .kib16 → a < 0xC000 → busRead (BitVec.ofNat 16 (a + 0x4000)) s = busRead (BitVec.ofNat 16 a) s))

/-- A bus read changes the state only at $2002, $2007 and $4016 and their mirrors (20_memory.md R209). -/
def Obligations.OnlyThreeRegistersHaveReadSideEffects : Prop :=
  ∀ (a : Word) (s : State),
    let n := a.toNat
    let window := 0x2000 ≤ n ∧ n ≤ 0x3FFF
    (¬(window ∧ n % 8 = 2) → ¬(window ∧ n % 8 = 7) → n ≠ 0x4016 → (busRead a s).2 = s) ∧
    (window → n % 8 = 2 → (busRead a s).2 = { s with ppu := { s.ppu with vblank := false, w := false } }) ∧
    (window → n % 8 = 7 → ∃ rb va, (busRead a s).2 = { s with ppu := { s.ppu with readBuffer := rb, vramAddr := va } }) ∧
    (n = 0x4016 → ∃ k, (busRead a s).2 = { s with pad := { s.pad with index := k } })

/-- A bus write stores its byte at the one place its address selects and leaves every other byte of every memory
(20_memory.md R205, 20_memory.md R221, 60_exceptions.md R625, 60_exceptions.md R628). -/
def Obligations.BusWriteChangesOneByte : Prop :=
  ∀ (a : Word) (v : Byte) (s : State), MemoriesOk s → ∀ q : Place,
    (busWrite a v s).byteAt q = (if storedPlace a s = some q then v else s.byteAt q) ∧
    (busRead a s).2.byteAt q = s.byteAt q

/-- A PPU-bus read after a PPU-bus write: the written byte where both reach one place, the old byte elsewhere
(20_memory.md R220, 20_memory.md R221, 20_memory.md R222, 20_memory.md R223, 20_memory.md R224, 20_memory.md R230). -/
def Obligations.PpuBusReadsTheLatestWrite : Prop :=
  ∀ (cfg : Config) (p : Ppu) (e1 e2 : Nat) (v : Byte), e1 < 0x4000 → e2 < 0x4000 →
    p.chr.wf → p.vram.wf → p.palette.wf →
    ppuRead cfg (ppuWrite cfg p e1 v) e2 =
      if ppuStoredPlace cfg e1 = some (ppuReadPlace cfg e2) then v else ppuRead cfg p e2

/-- The nametable mirroring: the two banks of the 2 KiB VRAM under each policy (R222). -/
def Obligations.NametableMirroring : Prop :=
  ∀ o : Nat, o < 0x1000 →
    ntMap .horizontal o = o / 0x800 * 0x400 + o % 0x400 ∧
    ntMap .vertical o = o / 0x400 % 2 * 0x400 + o % 0x400 ∧
    ntMap .horizontal o < 2048 ∧ ntMap .vertical o < 2048

/-- The palette: writes fold $10, $14, $18, $1C; reads show the background mirrors, and collapse $04, $08, $0C if the
parameter says so (R223, R224). -/
def Obligations.PaletteFoldAndReadView : Prop :=
  ∀ (cfg : Config) (p : Ppu) (i : Nat) (v : Byte), i < 32 →
    (i ∈ ([0x10, 0x14, 0x18, 0x1C] : List Nat) → paletteWrite p i v = { p with palette := p.palette.write (i - 0x10) v } ∧
      paletteRead cfg p i = p.palette.read (i - 0x10)) ∧
    (i ∉ ([0x10, 0x14, 0x18, 0x1C] : List Nat) → paletteWrite p i v = { p with palette := p.palette.write i v } ∧
      paletteRead cfg p i =
        if cfg.paletteBgMirrorCollapse = true ∧ i ∈ ([0x04, 0x08, 0x0C] : List Nat) then p.palette.read 0
        else p.palette.read i) ∧
    (p.palette.wf → paletteRead cfg (ppuWrite cfg p 0x3F10 v) 0x00 = v ∧
      paletteRead cfg (ppuWrite cfg p 0x3F10 v) 0x10 = v)

/-- CPU reads and writes of the PPU window: the eight registers, their latches and side effects (R620, R621, R622,
R623, R624, R625, R626, R627, R628). -/
def Obligations.PpuRegisterFile : Prop :=
  ∀ (a : Word) (v : Byte) (s : State), 0x2000 ≤ a.toNat → a.toNat ≤ 0x3FFF →
    let r := a.toNat % 8
    let p := s.ppu
    let e := (p.vramAddr &&& 0x3FFF).toNat
    let next := BitVec.ofNat 16 (p.vramAddr.toNat + if p.ctrl.getLsbD 2 then 32 else 1)
    (r = 2 → busRead a s = (BitVec.ofBool p.vblank ++ BitVec.ofBool p.sprite0Hit ++ 0#6,
      { s with ppu := { p with vblank := false, w := false } })) ∧
    (r = 4 → busRead a s = (p.oam.read p.oamAddr.toNat, s)) ∧
    (r = 7 → 0x3F00 ≤ e → busRead a s =
      (paletteRead s.cfg p (e &&& 0x1F), { s with ppu := { p with vramAddr := next } })) ∧
    (r = 7 → e < 0x3F00 → busRead a s =
      (p.readBuffer, { s with ppu := { p with readBuffer := ppuRead s.cfg p e, vramAddr := next } })) ∧
    (r = 0 ∨ r = 1 ∨ r = 3 ∨ r = 5 ∨ r = 6 → busRead a s = (0, s)) ∧
    (r = 0 → busWrite a v s = { s with ppu := { p with ctrl := v } }) ∧
    (r = 1 → busWrite a v s = { s with ppu := { p with mask := v } }) ∧
    (r = 2 → busWrite a v s = s) ∧
    (r = 3 → busWrite a v s = { s with ppu := { p with oamAddr := v } }) ∧
    (r = 4 → busWrite a v s = { s with ppu := { p with
      oam := p.oam.write p.oamAddr.toNat v, oamAddr := BitVec.ofNat 8 (p.oamAddr.toNat + 1) } }) ∧
    (r = 5 → busWrite a v s = { s with ppu :=
      if p.w then { p with scrollY := v, w := false } else { p with scrollX := v, w := true } }) ∧
    (r = 6 → busWrite a v s = { s with ppu :=
      if p.w then { p with vramAddr := BitVec.ofNat 16 (p.vramAddr.toNat + v.toNat), w := false }
      else { p with vramAddr := BitVec.ofNat 16 (v.toNat * 256), w := true } }) ∧
    (r = 7 → busWrite a v s = { s with ppu := { ppuWrite s.cfg p e v with vramAddr := next } })

/-- Running n dots advances the position by n modulo 89342 and answers a frame exactly when it passes the frame end
(60_exceptions.md R630, 60_exceptions.md R662, 70_reset_and_hazards.md R724, 10_state.md R125). -/
def Obligations.DotsCountModuloTheFrame : Prop :=
  ∀ (n : Nat) (s : State), s.ppu.dot < 341 → s.ppu.scanline < 262 →
    (runPpu n s).ppu.dot < 341 ∧ (runPpu n s).ppu.scanline < 262 ∧
    (runPpu n s).ppu.position = (s.ppu.position + n) % frameDots ∧
    ((runPpu n s).frameOut.isSome = true ↔ frameDots ≤ s.ppu.position + n)

/-- What a dot does to vblank, sprite-0 hit, the NMI line, the sprite list and the result, and what it leaves
unchanged (60_exceptions.md R630, 60_exceptions.md R631, 60_exceptions.md R632, 60_exceptions.md R633,
60_exceptions.md R634, 60_exceptions.md R637). -/
def Obligations.ScanlineFlagsAndNmi : Prop :=
  ∀ s : State, s.ppu.scanline < 262 →
    (s.ppu.dot < 340 → tick s = { s with ppu := { s.ppu with dot := s.ppu.dot + 1 } }) ∧
    (s.ppu.dot = 340 →
      let line := if s.ppu.scanline = 261 then 0 else s.ppu.scanline + 1
      let t := tick s
      t.ppu.dot = 0 ∧ t.ppu.scanline = line ∧
      t.ppu.vblank = (if line = 241 then true else if line = 0 then false else s.ppu.vblank) ∧
      t.nmiLine = (if line = 241 ∧ s.ppu.ctrl.getLsbD 7 = true then true else if line = 0 then false else s.nmiLine) ∧
      t.ppu.sprite0Hit =
        (decide (line = (s.ppu.oam.read 0).toNat ∧ s.ppu.mask.getLsbD 3 = true ∧ s.ppu.mask.getLsbD 4 = true) ||
          (decide (line ≠ 0) && s.ppu.sprite0Hit)) ∧
      t.ppu.spriteList = (if line = 0 then (frameStart s.cfg s.ppu).spriteList else s.ppu.spriteList) ∧
      (line ≠ 0 ∨ s.frameOut.isSome = true → t.frameOut = s.frameOut) ∧
      t.ppu.ctrl = s.ppu.ctrl ∧ t.ppu.mask = s.ppu.mask ∧ t.ppu.oamAddr = s.ppu.oamAddr ∧
      t.ppu.scrollX = s.ppu.scrollX ∧ t.ppu.scrollY = s.ppu.scrollY ∧ t.ppu.vramAddr = s.ppu.vramAddr ∧
      t.ppu.w = s.ppu.w ∧ t.ppu.readBuffer = s.ppu.readBuffer ∧ t.ppu.chr = s.ppu.chr ∧ t.ppu.vram = s.ppu.vram ∧
      t.ppu.palette = s.ppu.palette ∧ t.ppu.oam = s.ppu.oam ∧
      t.cfg = s.cfg ∧ t.cpu = s.cpu ∧ t.fault = s.fault ∧ t.irqLine = s.irqLine ∧ t.ram = s.ram ∧ t.dma = s.dma ∧
      t.pad = s.pad ∧ t.irqInput = s.irqInput ∧ t.cycles = s.cycles)

/-- Entering a visible scanline divisible by 8 appends 33 tiles computed from the scroll, the nametable and CHR; no
other dot touches the list (60_exceptions.md R631, 60_exceptions.md R635). -/
def Obligations.BandOfTilesBuilt : Prop :=
  ∀ s : State, s.ppu.scanline < 262 →
    (s.ppu.dot < 340 → (tick s).ppu.bgList = s.ppu.bgList) ∧
    (s.ppu.dot = 340 →
      let line := if s.ppu.scanline = 261 then 0 else s.ppu.scanline + 1
      let p := s.ppu
      let k := line / 8
      let cx0 := (p.scrollX.toNat + 256 * (p.ctrl.getLsbD 0).toNat) / 8
      let cy0 := (p.scrollY.toNat + 240 * (p.ctrl.getLsbD 1).toNat) / 8
      let tile := fun x : Nat =>
        let ty := (k + cy0) % 30
        let tx := (x + cx0) % 32
        let base := 0x2000 + ((x + cx0) / 32 % 2 + 2 * ((k + cy0) / 30 % 2)) * 0x400
        let index := ppuRead s.cfg p (base + ty * 32 + tx)
        let attr := ppuRead s.cfg p (base + 0x3C0 + ty / 4 * 8 + tx / 4)
        ({ index := index
           paletteId := BitVec.ofNat 2 (attr.toNat >>> (2 * (tx % 4 / 2 + 2 * (ty % 4 / 2))) &&& 3)
           pattern := (List.range 16).map fun j =>
             ppuRead s.cfg p ((if p.ctrl.getLsbD 4 then 0x1000 else 0) + index.toNat * 16 + j)
           scrollX := p.scrollX
           scrollY := p.scrollY } : BgTile)
      (tick s).ppu.bgList = (if line = 0 then [] else p.bgList) ++
        (if line % 8 = 0 ∧ line < 240 then (List.range 33).map tile else []))

/-- The sprite list at a frame start: exactly the OAM entries with Y of 2 or more, in OAM order, with Y less one
(60_exceptions.md R637). -/
def Obligations.SpritesOfTheFrame : Prop :=
  ∀ (cfg : Config) (p : Ppu),
    (frameStart cfg p).bgList = [] ∧
    (frameStart cfg p).spriteList.Pairwise (fun q r => q.oamIndex < r.oamIndex) ∧
    ∀ q : Sprite, q ∈ (frameStart cfg p).spriteList ↔ ∃ i < 64, 2 ≤ (p.oam.read (4 * i)).toNat ∧
      q = { oamIndex := i
            y := BitVec.ofNat 8 ((p.oam.read (4 * i)).toNat - 1)
            tile := p.oam.read (4 * i + 1)
            attr := p.oam.read (4 * i + 2)
            x := p.oam.read (4 * i + 3)
            pattern := (List.range 16).map fun j =>
              ppuRead cfg p ((if p.ctrl.getLsbD 3 then 0x1000 else 0) + (p.oam.read (4 * i + 1)).toNat * 16 + j) }

/-- The frame emitted at the end of scanline 261: palette read view, and each list when its enable bit is set (R638).
-/
def Obligations.FrameEmittedAtItsEnd : Prop :=
  ∀ s : State, s.ppu.scanline = 261 → s.ppu.dot = 340 → s.frameOut = none →
    (tick s).frameOut = some
      { palette := (List.range 32).map (paletteRead s.cfg s.ppu)
        background := if s.ppu.mask.getLsbD 3 then some s.ppu.bgList else none
        sprites := if s.ppu.mask.getLsbD 4 then some s.ppu.spriteList else none }

/-- Every frame a step answers has 32 palette bytes, 990 background tiles and well-formed, ordered sprites
(60_exceptions.md R635, 60_exceptions.md R637, 60_exceptions.md R638). -/
def Obligations.EmittedFramesHaveTheirFormat : Prop :=
  ∀ (s t : State) (f : Frame), s.Inv → step s = .next t → t.frameOut = some f →
    f.palette.length = 32 ∧
    (∀ bg, f.background = some bg → bg.length = 990 ∧ ∀ x ∈ bg, x.pattern.length = 16) ∧
    (∀ sp, f.sprites = some sp → sp.Pairwise (fun q r => q.oamIndex < r.oamIndex) ∧
      ∀ q ∈ sp, q.oamIndex < 64 ∧ 1 ≤ q.y.toNat ∧ q.y.toNat ≤ 254 ∧ q.pattern.length = 16)

/-- The DMA transfer and its iteration: 256 bytes into OAM in index order, the stall charged, no instruction run
(R641, R642). -/
def Obligations.DmaFillsOamAndStalls : Prop :=
  ∀ s : State, s.ppu.oam.wf →
    (∀ i < 256,
      let src := s.dma.page.toNat * 256 + i
      (dmaRun s).ppu.oam.read i = match s.cfg.dmaHighPageSource with
        | .ramMirror => s.ram.read (src &&& 0x07FF)
        | .cpuBus => (busRead (BitVec.ofNat 16 src) ((List.range i).foldl dmaByte s)).1) ∧
    (dmaRun s).dma = { s.dma with pending := false } ∧ (dmaRun s).ppu.oamAddr = s.ppu.oamAddr ∧
    (dmaRun s).ram = s.ram ∧ (dmaRun s).cpu = s.cpu ∧ (dmaRun s).ppu.chr = s.ppu.chr ∧
    (dmaRun s).ppu.vram = s.ppu.vram ∧ (dmaRun s).ppu.palette = s.ppu.palette ∧
    (s.fault = none → s.dma.pending = true → s.ppu.dot < 341 → s.ppu.scanline < 262 →
      ∃ t, step s = .next t ∧ t.cpu = s.cpu ∧ t.ram = s.ram ∧ t.cfg = s.cfg ∧ t.fault = none ∧
        t.dma.pending = false ∧ t.ppu.oam = (dmaRun s).ppu.oam ∧
        t.cycles = (match s.cfg.dmaStall with | .cycles513 => 513 | .cycles514 => 514) ∧
        t.ppu.position = (s.ppu.position + 3 * t.cycles) % frameDots ∧ (s.irqLine = true → t.irqLine = true))

/-- The controller port: strobe and capture, eight bits in order, then ones (R650, R651). -/
def Obligations.ControllerReadsTheButtonsInOrder : Prop :=
  ∀ (s : State) (v0 v1 : Byte) (n : Nat), v0.getLsbD 0 = false → v1.getLsbD 0 = true →
    busWrite 0x4016 v1 s = { s with pad := { s.pad with strobe := true } } ∧
    busWrite 0x4016 v0 s = { s with pad := if s.pad.strobe
      then { s.pad with snapshot := s.pad.liveButtons, index := 0, strobe := false } else s.pad } ∧
    (s.pad.index < 8 → busRead 0x4016 s = (if s.pad.snapshot.getLsbD s.pad.index then 1 else 0,
      { s with pad := { s.pad with index := s.pad.index + 1 } })) ∧
    (8 ≤ s.pad.index → busRead 0x4016 s = (1, s)) ∧
    (readPad (8 + n) (busWrite 0x4016 v0 (busWrite 0x4016 v1 s))).1 =
      (List.range 8).map (fun k => if s.pad.liveButtons.getLsbD k then (1 : Byte) else 0) ++ List.replicate n 1

/-- The value of every piece of state after reset (R150). -/
def Obligations.ResetValues : Prop :=
  ∀ s : State,
    let t := doReset s
    t.cpu.a = 0 ∧ t.cpu.x = 0 ∧ t.cpu.y = 0 ∧ t.cpu.sp = 0xFD ∧
    t.cpu.p = { n := false, v := false, r := true, b := true, d := false, i := true, z := false, c := false } ∧
    t.cpu.p.pack = 0x34 ∧
    t.cpu.pc = s.cfg.prg.read (0x7FFD % s.cfg.prgSize.bytes) ++ s.cfg.prg.read (0x7FFC % s.cfg.prgSize.bytes) ∧
    t.fault = none ∧ t.nmiLine = false ∧ t.irqLine = false ∧
    (∀ q : Place, (∀ i, q ≠ .chr i) → t.byteAt q = 0) ∧
    (∀ i, t.ppu.chr.read i = if s.cfg.chrIsRam then 0 else s.ppu.chr.read i) ∧
    t.ppu.ctrl = 0 ∧ t.ppu.mask = 0 ∧ t.ppu.oamAddr = 0 ∧ t.ppu.scrollX = 0 ∧ t.ppu.scrollY = 0 ∧ t.ppu.vramAddr = 0 ∧
    t.ppu.readBuffer = 0 ∧ t.ppu.w = false ∧ t.ppu.vblank = false ∧ t.ppu.sprite0Hit = false ∧
    t.ppu.dot = 0 ∧ t.ppu.scanline = 0 ∧
    t.ppu.bgList = (List.range 33).map (bandTile s.cfg t.ppu 0) ∧ t.ppu.spriteList = [] ∧
    t.dma = { pending := false, page := 0 } ∧
    t.pad = { liveButtons := 0, snapshot := 0, strobe := false, index := 0 } ∧ t.cfg = s.cfg

/-- The reset state is what the reset sequence leaves on the blank cartridge, the model's choice (log 2, DESIGN
CHOICE), and the invariant holds of it (10_state.md R150, 70_reset_and_hazards.md R700). -/
def Obligations.ResetStateSatisfiesTheInvariant : Prop :=
  State.reset = resetSequence Config.default [] ∧ State.reset.Inv

/-- Power-on with a well-formed cartridge answers a state in the invariant that holds its images; any other cartridge
is refused (92_eei_decisions.md D2, 10_state.md R111, 10_state.md R112, 70_reset_and_hazards.md R700,
70_reset_and_hazards.md R703). -/
def Obligations.PowerOnInstallsTheCartridge : Prop :=
  ∀ (c : Cartridge) (params : Config),
    (c.wellFormed = true → ∃ t, powerOn c params = .next t ∧ t.Inv ∧
      t.cfg.prgSize.bytes = c.prg.length ∧ (∀ k < c.prg.length, t.cfg.prg.read k = c.prg.getD k 0) ∧
      t.cfg.chrIsRam = c.chr.isEmpty ∧ (∀ k < 8192, t.ppu.chr.read k = c.chr.getD k 0) ∧
      t.cfg.mirroring = c.mirroring) ∧
    (c.wellFormed = false → powerOn c params = .refused .cartridgeFormat)

/-- Every step keeps the invariant: canonical memories in their stores, counters and lists in shape, the reserved bit
1 (10_state.md R104, 10_state.md R110, 10_state.md R125, 10_state.md R128, 20_memory.md R223, 60_exceptions.md R635,
60_exceptions.md R637). -/
def Obligations.StepKeepsTheInvariant : Prop :=
  ∀ s t : State, s.Inv → step s = .next t → t.Inv

/-- A step answers a fault exactly when one is recorded, never a refusal; a fetched UNDEF byte records it in a next
state (split of log 5, DEDUCED) (10_state.md R108, 60_exceptions.md R601, 60_exceptions.md R602,
44_stack_status_misc.md R532). -/
def Obligations.OnlyARecordedFaultStopsAStep : Prop :=
  ∀ s : State,
    (∀ f, s.fault = some f → step s = .fault f) ∧
    (s.fault = none →
      let v := interruptCheck (takeIrqInput s)
      let op := (busRead v.cpu.pc v).1
      ∃ t, step s = .next t ∧
        (t.fault.isSome = true ↔ s.dma.pending = false ∧ (tableEntry op).1 = .undef) ∧
        ∀ f, t.fault = some f → f = .opcodeNotImplemented v.cpu.pc op ∧ t.cpu.pc = v.cpu.pc + 1 ∧
          t.ppu.position = s.ppu.position ∧ t.frameOut = none)

/-- No step changes the configuration, PRG, CHR-ROM or the live buttons; neither a DMA iteration nor a PPU run changes
RAM, so only the CPU does (10_state.md R111, 10_state.md R112, 70_reset_and_hazards.md R702, 20_memory.md R207,
10_state.md R110, 10_state.md R128, 60_exceptions.md R652, 60_exceptions.md R641). -/
def Obligations.CartridgeMemoryIsNeverWritten : Prop :=
  (∀ s t : State, step s = .next t →
    t.cfg = s.cfg ∧ (s.cfg.chrIsRam = false → t.ppu.chr = s.ppu.chr) ∧ t.pad.liveButtons = s.pad.liveButtons ∧
    (s.dma.pending = true → t.ram = s.ram) ∧
    (s.dma.pending = false → ∃ u, cpuStep (takeIrqInput s) = .next u ∧ t.ram = u.ram)) ∧
  (∀ s : State, (catchUp s).ram = s.ram ∧ (takeIrqInput s).ram = s.ram) ∧
  (∀ (n : Nat) (s : State), (runPpu n s).ram = s.ram)

/-- step_frame ends within 14891 iterations with a frame, or with a fault (60_exceptions.md R661). -/
def Obligations.StepFrameIsBounded : Prop :=
  ∀ s : State, s.Inv → s.cfg.wellFormed = true → s.fault = none →
    (∃ t, stepFrame s = .next t ∧ t.frameOut.isSome = true) ∨ ∃ f, stepFrame s = .fault f

/-- Each status flag changes only by the instructions R105 lists for it (10_state.md R105). -/
def Obligations.FlagsChangeOnlyByTheirWriters : Prop :=
  ∀ (i : Instr) (s t : State), exec i s = .next t →
    let by_ := fun l : List Mnemonic => i.row.mnemonic ∈ l
    (¬by_ [.lda, .ldx, .ldy, .lax, .tax, .tay, .txa, .tya, .tsx, .pla, .adc, .sbc, .and, .ora, .eor, .cmp, .cpx,
        .cpy, .bit, .inc, .dec, .inx, .iny, .dex, .dey, .asl, .lsr, .rol, .ror, .dcp, .isb, .slo, .rla, .sre,
        .rra, .plp, .rti] → t.cpu.p.n = s.cpu.p.n ∧ t.cpu.p.z = s.cpu.p.z) ∧
    (¬by_ [.adc, .sbc, .isb, .rra, .bit, .clv, .plp, .rti] → t.cpu.p.v = s.cpu.p.v) ∧
    (¬by_ [.brk, .plp, .rti] → t.cpu.p.b = s.cpu.p.b) ∧
    (¬by_ [.sed, .cld, .plp, .rti] → t.cpu.p.d = s.cpu.p.d) ∧
    (¬by_ [.sei, .cli, .plp, .rti, .brk] → t.cpu.p.i = s.cpu.p.i) ∧
    (¬by_ [.adc, .sbc, .cmp, .cpx, .cpy, .asl, .lsr, .rol, .ror, .dcp, .isb, .slo, .rla, .sre, .rra, .clc, .sec,
        .plp, .rti] → t.cpu.p.c = s.cpu.p.c) ∧
    (¬by_ [.plp, .rti] → t.cpu.p.r = s.cpu.p.r) ∧ (by_ [.plp, .rti] → t.cpu.p.r = true)

/-- A, X, Y, SP and PC change only by the instructions that write them; no addressing mode changes a register
(10_state.md R100, 10_state.md R101, 10_state.md R103, 30_encoding.md R302). -/
def Obligations.RegistersChangeOnlyByTheirWriters : Prop :=
  ∀ (i : Instr) (s t : State), exec i s = .next t →
    let by_ := fun l : List Mnemonic => i.row.mnemonic ∈ l
    (¬by_ [.lda, .lax, .txa, .tya, .pla, .adc, .sbc, .and, .ora, .eor, .asl, .lsr, .rol, .ror, .slo, .rla, .sre, .rra,
        .isb] → t.cpu.a = s.cpu.a) ∧
    (by_ [.asl, .lsr, .rol, .ror] → i.row.operand ≠ .accumulator → t.cpu.a = s.cpu.a) ∧
    (¬by_ [.ldx, .lax, .tax, .tsx, .inx, .dex] → t.cpu.x = s.cpu.x) ∧
    (¬by_ [.ldy, .tay, .iny, .dey] → t.cpu.y = s.cpu.y) ∧
    (¬by_ [.txs, .pha, .php, .pla, .plp, .jsr, .rts, .rti, .brk] → t.cpu.sp = s.cpu.sp) ∧
    (¬by_ [.bcc, .bcs, .beq, .bne, .bmi, .bpl, .bvc, .bvs, .jmp, .jsr, .rts, .rti, .brk] → t.cpu.pc = s.cpu.pc)

/-- Every byte of every memory but the one an instruction stores to reads as before, for every instruction
(00_scope.md R10, 20_memory.md R203, 20_memory.md R205, 10_state.md R102). -/
def Obligations.MemoryChangesOnlyWhereAnInstructionStores : Prop :=
  ∀ (i : Instr) (s t : State) (q : Place), exec i s = .next t →
    let mn := i.row.mnemonic
    let a := resolve i.row.operand s
    let stack := fun k : Byte => Place.ram (0x100 + (s.cpu.sp - k).toNat)
    (mn ∈ ([.sta, .stx, .sty, .sax] : List Mnemonic) → storedPlace a.payload a.state ≠ some q → t.byteAt q = s.byteAt q) ∧
    (mn ∈ ([.inc, .dec, .asl, .lsr, .rol, .ror, .slo, .rla, .sre, .rra, .dcp, .isb] : List Mnemonic) →
      (i.row.operand = .accumulator ∨ storedPlace a.payload (busRead a.payload a.state).2 ≠ some q) →
      t.byteAt q = s.byteAt q) ∧
    (mn ∈ ([.pha, .php] : List Mnemonic) → q ≠ stack 0 → t.byteAt q = s.byteAt q) ∧
    (mn = .jsr → q ≠ stack 0 → q ≠ stack 1 → t.byteAt q = s.byteAt q) ∧
    (mn = .brk → q ≠ stack 0 → q ≠ stack 1 → q ≠ stack 2 → t.byteAt q = s.byteAt q) ∧
    (mn ∉ ([.sta, .stx, .sty, .sax, .inc, .dec, .asl, .lsr, .rol, .ror, .slo, .rla, .sre, .rra, .dcp, .isb,
          .pha, .php, .jsr, .brk] : List Mnemonic) → t.byteAt q = s.byteAt q)

/-- What no instruction changes outside the CPU registers and the memories, and what only a store changes
(20_memory.md R209, 20_memory.md R230, 60_exceptions.md R660). -/
def Obligations.InstructionsLeaveTheOtherUnits : Prop :=
  ∀ (i : Instr) (s t : State), exec i s = .next t →
    t.cfg = s.cfg ∧ t.nmiLine = s.nmiLine ∧ t.irqLine = s.irqLine ∧ t.irqInput = s.irqInput ∧ t.frameOut = s.frameOut ∧
    (i.row.mnemonic ≠ .undef → t.fault = s.fault) ∧
    t.ppu.dot = s.ppu.dot ∧ t.ppu.scanline = s.ppu.scanline ∧ t.ppu.bgList = s.ppu.bgList ∧
    t.ppu.spriteList = s.ppu.spriteList ∧ t.ppu.sprite0Hit = s.ppu.sprite0Hit ∧
    t.pad.liveButtons = s.pad.liveButtons ∧
    (i.row.mnemonic ∉ ([.sta, .stx, .sty, .sax, .inc, .dec, .asl, .lsr, .rol, .ror, .slo, .rla, .sre, .rra, .dcp, .isb] : List Mnemonic) →
      t.dma = s.dma ∧ t.ppu.ctrl = s.ppu.ctrl ∧ t.ppu.mask = s.ppu.mask ∧ t.ppu.oamAddr = s.ppu.oamAddr ∧
      t.ppu.scrollX = s.ppu.scrollX ∧ t.ppu.scrollY = s.ppu.scrollY ∧ t.pad.snapshot = s.pad.snapshot ∧
      t.pad.strobe = s.pad.strobe)

/-- Only the external IRQ input asserts the IRQ line, one schedule entry per iteration (that list is the choice of log
3, a DESIGN CHOICE of the model) (60_exceptions.md R613, 60_exceptions.md R605, 10_state.md R109). -/
def Obligations.TheIrqLineFollowsItsInput : Prop :=
  ∀ s : State,
    assertIrq s = { s with irqLine := true } ∧
    (s.irqInput = [] → takeIrqInput s = s) ∧
    (∀ (b : Bool) (rest : List Bool), s.irqInput = b :: rest →
      takeIrqInput s = { s with irqLine := s.irqLine || b, irqInput := rest }) ∧
    (∀ t, step s = .next t → t.irqInput = s.irqInput.tail ∧
      (t.irqLine = true → s.irqLine = true ∨ ∃ rest, s.irqInput = true :: rest) ∧
      ((s.irqLine = true ∨ ∃ rest, s.irqInput = true :: rest) →
        t.irqLine = (s.dma.pending || s.nmiLine || s.cpu.p.i))) ∧
    (∀ rest, s.irqInput = true :: rest → s.nmiLine = false → s.cpu.p.i = false →
      interruptCheck (takeIrqInput s) = dispatch 0xFFFE { s with irqLine := false, irqInput := rest })

/-- latch_buttons sets the live buttons and nothing else; the program reads them after its next strobe sequence and
not before (60_exceptions.md R652, 60_exceptions.md R650, 60_exceptions.md R651, 10_state.md R128). -/
def Obligations.LatchedButtonsAreReadAfterTheNextStrobe : Prop :=
  ∀ (buttons : Byte) (s : State),
    latchButtons buttons s = { s with pad := { s.pad with liveButtons := buttons } } ∧
    (∀ n, (readPad n (latchButtons buttons s)).1 = (readPad n s).1) ∧
    (∀ t, step (latchButtons buttons s) = .next t → t.pad.liveButtons = buttons) ∧
    (∀ (v0 v1 : Byte) (n : Nat), v0.getLsbD 0 = false → v1.getLsbD 0 = true →
      (readPad (8 + n) (busWrite 0x4016 v0 (busWrite 0x4016 v1 (latchButtons buttons s)))).1 =
        (List.range 8).map (fun k => if buttons.getLsbD k then (1 : Byte) else 0) ++ List.replicate n 1)
end

