-- ==== Sys2Proof/Laws/Memory.lean ====
section
/-! SUPPORT. The laws of the byte memory: read after write, the canonical form, bounds, and equality by reads. -/

namespace Sys2Proof

@[simp] theorem Memory.read_nil (a : Nat) : Memory.read [] a = 0#8 := rfl

theorem Memory.read_cons (k : Nat) (v : Byte) (m : Memory) (a : Nat) :
    Memory.read ((k, v) :: m) a = if k = a then v else Memory.read m a := rfl

/-- A write answers the written byte at its address, whatever the memory. -/
theorem Memory.read_write_same {m : Memory} (h : m.wf) (a : Nat) (v : Byte) : (m.write a v).read a = v := by
  induction m with
  | nil => by_cases hv : v = 0#8 <;> simp [Memory.write, Memory.read, hv]
  | cons c m ih =>
    obtain ⟨k, x⟩ := c
    have hm : Memory.wf m := ⟨h.1.tail, fun c hc => h.2 c (List.mem_cons_of_mem _ hc)⟩
    have absent : ∀ n, n ≤ k → Memory.read m n = 0#8 := by
      intro n hn
      have hk := (List.pairwise_cons.mp h.1).1
      clear ih h
      induction m with
      | nil => rfl
      | cons d m ih =>
        have hd := hk d (List.mem_cons_self ..)
        rw [show d = (d.1, d.2) from rfl, Memory.read_cons, if_neg (by simp only at hd; omega)]
        exact ih ⟨hm.1.tail, fun c hc => hm.2 c (List.mem_cons_of_mem _ hc)⟩
          fun c hc => hk c (List.mem_cons_of_mem _ hc)
    unfold Memory.write
    split
    · rename_i hlt
      split
      · rename_i hv
        rw [Memory.read_cons, if_neg (by omega), absent a (by omega), hv]
      · simp [Memory.read_cons]
    · split
      · rename_i hak
        split
        · rename_i hv
          rw [absent a (by omega), hv]
        · simp [Memory.read_cons]
      · rename_i hne
        rw [Memory.read_cons, if_neg (fun e => hne e.symm), ih hm]

/-- A write leaves every other address alone. -/
theorem Memory.read_write_other (m : Memory) {a b : Nat} (v : Byte) (h : a ≠ b) : (m.write a v).read b = m.read b := by
  induction m with
  | nil => by_cases hv : v = 0#8 <;> simp [Memory.write, Memory.read, hv, h]
  | cons c m ih =>
    obtain ⟨k, x⟩ := c
    unfold Memory.write
    repeat' split
    all_goals first
      | rfl
      | (rename_i h1 h2; subst h1; simp [Memory.read_cons, h])
      | simp [Memory.read_cons, h, ih]

/-- A cell of a written memory is the written one or an old one. -/
theorem Memory.mem_write {m : Memory} {a : Nat} {v : Byte} {c : Host.Cell} (h : c ∈ m.write a v) :
    (c = (a, v) ∧ v ≠ 0#8) ∨ c ∈ m := by
  induction m with
  | nil => by_cases hv : v = 0#8 <;> simp_all [Memory.write]
  | cons d m ih =>
    obtain ⟨k, x⟩ := d
    simp only [Memory.write] at h
    split at h
    · split at h
      · exact .inr h
      · exact (List.mem_cons.mp h).imp (fun e => ⟨e, ‹_›⟩) id
    · split at h
      · split at h
        · exact .inr (List.mem_cons_of_mem _ h)
        · exact (List.mem_cons.mp h).imp (fun e => ⟨e, ‹_›⟩) (List.mem_cons_of_mem _)
      · rcases List.mem_cons.mp h with rfl | h
        · exact .inr (List.mem_cons_self ..)
        · exact (ih h).imp id (List.mem_cons_of_mem _)

/-- A write keeps the canonical form. -/
theorem Memory.write_wf {m : Memory} (h : m.wf) (a : Nat) (v : Byte) : (m.write a v).wf := by
  constructor
  · have hp := h.1
    clear h
    induction m with
    | nil => by_cases hv : v = 0#8 <;> simp [Memory.write, hv]
    | cons d m ih =>
      obtain ⟨k, x⟩ := d
      obtain ⟨hk, hm⟩ := List.pairwise_cons.mp hp
      unfold Memory.write
      split
      · rename_i hlt
        split
        · exact hp
        · refine List.pairwise_cons.mpr ⟨fun c hc => ?_, hp⟩
          rcases List.mem_cons.mp hc with rfl | hc
          · exact hlt
          · exact Nat.lt_trans hlt (hk c hc)
      · split
        · rename_i hak
          subst hak
          split
          · exact hm
          · exact List.pairwise_cons.mpr ⟨hk, hm⟩
        · rename_i hnlt hne
          refine List.pairwise_cons.mpr ⟨fun c hc => ?_, ih hm⟩
          rcases Memory.mem_write hc with ⟨rfl, -⟩ | hc
          · show k < a
            omega
          · exact hk c hc
  · intro c hc
    rcases Memory.mem_write hc with ⟨rfl, hv⟩ | hc
    · exact hv
    · exact h.2 c hc

/-- A write inside the store keeps the memory inside it. -/
theorem Memory.write_below {m : Memory} {n a : Nat} (h : m.below n) (ha : a < n) (v : Byte) : (m.write a v).below n := by
  intro c hc
  rcases Memory.mem_write hc with ⟨rfl, -⟩ | hc
  · exact ha
  · exact h c hc

theorem Memory.nil_wf : Memory.wf [] := ⟨List.Pairwise.nil, by simp⟩

theorem Memory.nil_below (n : Nat) : Memory.below [] n := by simp [Memory.below]

/-- An image read from a list of bytes is canonical, and its addresses start at `k`. -/
theorem Memory.ofBytesFrom_wf (bs : List Byte) (k : Nat) :
    (Memory.ofBytesFrom k bs).wf ∧ ∀ c ∈ Memory.ofBytesFrom k bs, k ≤ c.1 ∧ c.1 < k + bs.length := by
  induction bs generalizing k with
  | nil => simp [Memory.ofBytesFrom, Memory.wf]
  | cons b bs ih =>
    obtain ⟨hwf, hb⟩ := ih (k + 1)
    have hb' : ∀ c ∈ Memory.ofBytesFrom (k + 1) bs, k < c.1 ∧ c.1 < k + (bs.length + 1) := by
      intro c hc
      have := hb c hc
      omega
    unfold Memory.ofBytesFrom
    split
    · refine ⟨hwf, fun c hc => ?_⟩
      have := hb' c hc
      simp only [List.length_cons]
      omega
    · rename_i hne
      refine ⟨⟨List.pairwise_cons.mpr ⟨fun c hc => (hb' c hc).1, hwf.1⟩, ?_⟩, ?_⟩
      · intro c hc
        rcases List.mem_cons.mp hc with rfl | hc
        · exact hne
        · exact hwf.2 c hc
      · intro c hc
        rcases List.mem_cons.mp hc with rfl | hc
        · simp
        · have := hb' c hc
          simp only [List.length_cons]
          omega

/-- An address that no cell lists reads 0. -/
theorem Memory.read_eq_zero_of_not_mem {m : Memory} {a : Nat} (h : ∀ c ∈ m, c.1 ≠ a) : m.read a = 0#8 := by
  induction m with
  | nil => rfl
  | cons d m ih =>
    rw [show d = (d.1, d.2) from rfl, Memory.read_cons, if_neg (h d (List.mem_cons_self ..))]
    exact ih fun c hc => h c (List.mem_cons_of_mem _ hc)

/-- Two canonical memories that read alike everywhere are the same list. -/
theorem Memory.ext_read {m n : Memory} (hm : m.wf) (hn : n.wf) (h : ∀ a, m.read a = n.read a) : m = n := by
  induction m generalizing n with
  | nil =>
    cases n with
    | nil => rfl
    | cons d n =>
      have := h d.1
      rw [show d = (d.1, d.2) from rfl, Memory.read_cons, if_pos rfl] at this
      exact absurd this.symm (hn.2 d (List.mem_cons_self ..))
  | cons c m ih =>
    cases n with
    | nil =>
      have := h c.1
      rw [show c = (c.1, c.2) from rfl, Memory.read_cons, if_pos rfl] at this
      exact absurd this (hm.2 c (List.mem_cons_self ..))
    | cons d n =>
      obtain ⟨k, x⟩ := c
      obtain ⟨l, y⟩ := d
      obtain ⟨hk, hm'⟩ := List.pairwise_cons.mp hm.1
      obtain ⟨hl, hn'⟩ := List.pairwise_cons.mp hn.1
      have hx : x ≠ 0#8 := hm.2 _ (List.mem_cons_self ..)
      have hy : y ≠ 0#8 := hn.2 _ (List.mem_cons_self ..)
      have zm : ∀ a, a ≤ k → Memory.read m a = 0#8 := fun a ha =>
        Memory.read_eq_zero_of_not_mem fun e he => by have := hk e he; simp only at this; omega
      have zn : ∀ a, a ≤ l → Memory.read n a = 0#8 := fun a ha =>
        Memory.read_eq_zero_of_not_mem fun e he => by have := hl e he; simp only at this; omega
      have hkl : k = l := by
        rcases Nat.lt_trichotomy k l with hlt | heq | hgt
        · have := h k
          rw [Memory.read_cons, if_pos rfl, Memory.read_cons, if_neg (by omega), zn k (by omega)] at this
          exact absurd this hx
        · exact heq
        · have := h l
          rw [Memory.read_cons, if_neg (by omega), zm l (by omega), Memory.read_cons, if_pos rfl] at this
          exact absurd this.symm hy
      subst hkl
      have hxy : x = y := by simpa [Memory.read_cons] using h k
      subst hxy
      congr 1
      refine ih ⟨hm', fun e he => hm.2 e (List.mem_cons_of_mem _ he)⟩
        ⟨hn', fun e he => hn.2 e (List.mem_cons_of_mem _ he)⟩ fun a => ?_
      by_cases ha : k = a
      · subst ha
        rw [zm k (Nat.le_refl k), zn k (Nat.le_refl k)]
      · simpa [Memory.read_cons, ha] using h a

end Sys2Proof
end

