-- ==== Sys2Proof/Laws/State.lean ====
section
/-! SUPPORT. One lemma per field per update of the state, so that later proofs need not unfold a record update; and the
fields of the status and CPU updates of Flags.lean. -/

namespace Sys2Proof.Machine

section MapCpu
variable (f : Cpu → Cpu) (s : State)

@[simp] theorem mapCpu_cpu : (s.mapCpu f).cpu = f s.cpu := rfl
@[simp] theorem mapCpu_cfg : (s.mapCpu f).cfg = s.cfg := rfl
@[simp] theorem mapCpu_fault : (s.mapCpu f).fault = s.fault := rfl
@[simp] theorem mapCpu_nmiLine : (s.mapCpu f).nmiLine = s.nmiLine := rfl
@[simp] theorem mapCpu_irqLine : (s.mapCpu f).irqLine = s.irqLine := rfl
@[simp] theorem mapCpu_ram : (s.mapCpu f).ram = s.ram := rfl
@[simp] theorem mapCpu_ppu : (s.mapCpu f).ppu = s.ppu := rfl
@[simp] theorem mapCpu_dma : (s.mapCpu f).dma = s.dma := rfl
@[simp] theorem mapCpu_pad : (s.mapCpu f).pad = s.pad := rfl
@[simp] theorem mapCpu_irqInput : (s.mapCpu f).irqInput = s.irqInput := rfl
@[simp] theorem mapCpu_cycles : (s.mapCpu f).cycles = s.cycles := rfl
@[simp] theorem mapCpu_frameOut : (s.mapCpu f).frameOut = s.frameOut := rfl

end MapCpu

section SetPc
variable (t : Word) (s : State)

@[simp] theorem setPc_pc : (s.setPc t).cpu.pc = t := rfl
@[simp] theorem setPc_a : (s.setPc t).cpu.a = s.cpu.a := rfl
@[simp] theorem setPc_x : (s.setPc t).cpu.x = s.cpu.x := rfl
@[simp] theorem setPc_y : (s.setPc t).cpu.y = s.cpu.y := rfl
@[simp] theorem setPc_sp : (s.setPc t).cpu.sp = s.cpu.sp := rfl
@[simp] theorem setPc_p : (s.setPc t).cpu.p = s.cpu.p := rfl
@[simp] theorem setPc_cfg : (s.setPc t).cfg = s.cfg := rfl
@[simp] theorem setPc_fault : (s.setPc t).fault = s.fault := rfl
@[simp] theorem setPc_nmiLine : (s.setPc t).nmiLine = s.nmiLine := rfl
@[simp] theorem setPc_irqLine : (s.setPc t).irqLine = s.irqLine := rfl
@[simp] theorem setPc_ram : (s.setPc t).ram = s.ram := rfl
@[simp] theorem setPc_ppu : (s.setPc t).ppu = s.ppu := rfl
@[simp] theorem setPc_dma : (s.setPc t).dma = s.dma := rfl
@[simp] theorem setPc_pad : (s.setPc t).pad = s.pad := rfl
@[simp] theorem setPc_irqInput : (s.setPc t).irqInput = s.irqInput := rfl
@[simp] theorem setPc_cycles : (s.setPc t).cycles = s.cycles := rfl
@[simp] theorem setPc_frameOut : (s.setPc t).frameOut = s.frameOut := rfl

end SetPc

section Finish
variable (r : Row) (e b : Bool) (s : State)

@[simp] theorem finish_cycles :
    (finish r e b s).cycles = cost s.cfg r.opcode r.mnemonic r.operand.mode e b := rfl
@[simp] theorem finish_cpu : (finish r e b s).cpu = s.cpu := rfl
@[simp] theorem finish_cfg : (finish r e b s).cfg = s.cfg := rfl
@[simp] theorem finish_fault : (finish r e b s).fault = s.fault := rfl
@[simp] theorem finish_nmiLine : (finish r e b s).nmiLine = s.nmiLine := rfl
@[simp] theorem finish_irqLine : (finish r e b s).irqLine = s.irqLine := rfl
@[simp] theorem finish_ram : (finish r e b s).ram = s.ram := rfl
@[simp] theorem finish_ppu : (finish r e b s).ppu = s.ppu := rfl
@[simp] theorem finish_dma : (finish r e b s).dma = s.dma := rfl
@[simp] theorem finish_pad : (finish r e b s).pad = s.pad := rfl
@[simp] theorem finish_irqInput : (finish r e b s).irqInput = s.irqInput := rfl
@[simp] theorem finish_frameOut : (finish r e b s).frameOut = s.frameOut := rfl

end Finish

section RaiseFault
variable (f : Fault) (s : State)

@[simp] theorem raiseFault_fault : (raiseFault f s).fault = some f := rfl
@[simp] theorem raiseFault_cycles : (raiseFault f s).cycles = 0 := rfl
@[simp] theorem raiseFault_cpu : (raiseFault f s).cpu = s.cpu := rfl
@[simp] theorem raiseFault_cfg : (raiseFault f s).cfg = s.cfg := rfl
@[simp] theorem raiseFault_nmiLine : (raiseFault f s).nmiLine = s.nmiLine := rfl
@[simp] theorem raiseFault_irqLine : (raiseFault f s).irqLine = s.irqLine := rfl
@[simp] theorem raiseFault_ram : (raiseFault f s).ram = s.ram := rfl
@[simp] theorem raiseFault_ppu : (raiseFault f s).ppu = s.ppu := rfl
@[simp] theorem raiseFault_dma : (raiseFault f s).dma = s.dma := rfl
@[simp] theorem raiseFault_pad : (raiseFault f s).pad = s.pad := rfl
@[simp] theorem raiseFault_irqInput : (raiseFault f s).irqInput = s.irqInput := rfl
@[simp] theorem raiseFault_frameOut : (raiseFault f s).frameOut = s.frameOut := rfl

end RaiseFault

/-! ### Status and register updates -/

section SetNZ
variable (v : Byte) (p : Status)

@[simp] theorem setNZ_n : (setNZ v p).n = v.getLsbD 7 := rfl
@[simp] theorem setNZ_z : (setNZ v p).z = (v == 0) := rfl
@[simp] theorem setNZ_v : (setNZ v p).v = p.v := rfl
@[simp] theorem setNZ_r : (setNZ v p).r = p.r := rfl
@[simp] theorem setNZ_b : (setNZ v p).b = p.b := rfl
@[simp] theorem setNZ_d : (setNZ v p).d = p.d := rfl
@[simp] theorem setNZ_i : (setNZ v p).i = p.i := rfl
@[simp] theorem setNZ_c : (setNZ v p).c = p.c := rfl

end SetNZ

/-- unpack reads back what pack wrote, with the reserved bit 1 (10_state.md R104). -/
theorem unpack_pack (p : Status) : Status.unpack p.pack = { p with r := true } := by
  obtain ⟨n, v, r, b, d, i, z, c⟩ := p
  cases n <;> cases v <;> cases r <;> cases b <;> cases d <;> cases i <;> cases z <;> cases c <;> decide

@[simp] theorem unpack_r (b : Byte) : (Status.unpack b).r = true := rfl

/-- The four byte operations of the shifts and the two counts keep R, V, B, D and I. -/
theorem shiftOps_keep (v : Byte) (p : Status) :
    ∀ f ∈ [aslOp, lsrOp, rolOp, rorOp, incOp, decOp],
      (f v p).2.r = p.r ∧ (f v p).2.v = p.v ∧ (f v p).2.b = p.b ∧ (f v p).2.d = p.d ∧ (f v p).2.i = p.i := by
  simp [aslOp, lsrOp, rolOp, rorOp, incOp, decOp, setNZ]

/-- What the register operations on A keep: X, Y, SP, PC and the flags R, B, D, I. -/
theorem coreOps_keep (m : Byte) (c : Cpu) :
    ∀ g ∈ [adcCore, sbcCore, andCore, oraCore, eorCore],
      (g m c).x = c.x ∧ (g m c).y = c.y ∧ (g m c).sp = c.sp ∧ (g m c).pc = c.pc ∧
        (g m c).p.r = c.p.r ∧ (g m c).p.b = c.p.b ∧ (g m c).p.d = c.p.d ∧ (g m c).p.i = c.p.i := by
  simp [adcCore, sbcCore, andCore, oraCore, eorCore, setNZ]

end Sys2Proof.Machine
end

