-- ==== Sys2Proof/Laws/Bus.lean ====
section
/-! SUPPORT. What the CPU bus can do, said once: the frame of a read and of a write, the closed forms of the accesses to the
stack, the zero page and PRG, and from them of push, pop, the pointer reads and the interrupt entry. -/

namespace Sys2Proof.Machine

/-! ### The PPU registers keep what only the engine changes -/

section PpuKeep
variable (cfg : Config) (r : PpuReg) (v : Byte) (p : Ppu) (e : Nat)

/-- A register read changes at most vblank, w, read_buffer and vram_addr. -/
theorem ppuRegRead_keeps : ∃ vb w rb va,
    (ppuRegRead cfg r p).2 = { p with vblank := vb, w := w, readBuffer := rb, vramAddr := va } := by
  cases r <;> simp only [ppuRegRead, statusRead, dataRead]
  case status => exact ⟨_, _, _, _, rfl⟩
  case data => split <;> exact ⟨_, _, _, _, rfl⟩
  all_goals exact ⟨_, _, _, _, rfl⟩

/-- A PPU-bus write changes at most CHR, VRAM or the palette. -/
theorem ppuWrite_keeps : ∃ chr vram pal,
    ppuWrite cfg p e v = { p with chr := chr, vram := vram, palette := pal } := by
  simp only [ppuWrite, paletteWrite]
  repeat' split
  all_goals exact ⟨_, _, _, rfl⟩

/-- A register write changes at most the written registers, the latches and the memories: never the status flags, the
read buffer, the counters or the frame lists. -/
theorem ppuRegWrite_keeps : ∃ ctrl mask oa sx sy va w chr vram pal oam,
    ppuRegWrite cfg r v p = { p with
      ctrl := ctrl, mask := mask, oamAddr := oa, scrollX := sx, scrollY := sy, vramAddr := va, w := w
      chr := chr, vram := vram, palette := pal, oam := oam } := by
  cases r <;> simp only [ppuRegWrite, oamDataWrite, scrollWrite, addrWrite, dataWrite]
  case scroll => split <;> exact ⟨_, _, _, _, _, _, _, _, _, _, _, rfl⟩
  case addr => split <;> exact ⟨_, _, _, _, _, _, _, _, _, _, _, rfl⟩
  case data =>
    obtain ⟨chr, vram, pal, h⟩ := ppuWrite_keeps cfg v p (effectiveAddr p)
    rw [h]
    exact ⟨_, _, _, _, _, _, _, _, _, _, _, rfl⟩
  all_goals exact ⟨_, _, _, _, _, _, _, _, _, _, _, rfl⟩

end PpuKeep

/-! ### A bus read and a bus write -/

section Frames
variable (a : Word) (v : Byte) (s : State)

/-- A bus read changes nothing, or the PPU latches of a register read, or the controller index. -/
theorem busRead_state :
    (∃ vb w rb va, (busRead a s).2 =
      { s with ppu := { s.ppu with vblank := vb, w := w, readBuffer := rb, vramAddr := va } }) ∨
    (busRead a s).2 = { s with pad := s.pad.read.2 } := by
  unfold busRead
  split
  case h_2 r _ =>
    obtain ⟨vb, w, rb, va, h⟩ := ppuRegRead_keeps s.cfg r s.ppu
    exact .inl ⟨vb, w, rb, va, by simp only [h]⟩
  case h_3 => exact .inr rfl
  all_goals exact .inl ⟨s.ppu.vblank, s.ppu.w, s.ppu.readBuffer, s.ppu.vramAddr, rfl⟩

/-- A bus write changes one RAM byte, or PPU registers, latches and memories, or the DMA register, or the controller. -/
theorem busWrite_state :
    (∃ i, busTarget s.cfg a = .ram i ∧ busWrite a v s = { s with ram := s.ram.write i v }) ∨
    (∃ r, busTarget s.cfg a = .ppuReg r ∧ busWrite a v s = { s with ppu := ppuRegWrite s.cfg r v s.ppu }) ∨
    (busTarget s.cfg a = .oamDma ∧ busWrite a v s = { s with dma := { page := v, pending := true } }) ∨
    (busTarget s.cfg a = .controller ∧ busWrite a v s = { s with pad := s.pad.write v }) ∨
    busWrite a v s = s := by
  unfold busWrite
  cases h : busTarget s.cfg a with
  | ram i => exact .inl ⟨i, rfl, rfl⟩
  | ppuReg r => exact .inr (.inl ⟨r, rfl, rfl⟩)
  | oamDma => exact .inr (.inr (.inl ⟨rfl, rfl⟩))
  | controller => exact .inr (.inr (.inr (.inl ⟨rfl, rfl⟩)))
  | unmapped => exact .inr (.inr (.inr (.inr rfl)))
  | prg off => exact .inr (.inr (.inr (.inr rfl)))

@[simp] theorem busRead_cfg : (busRead a s).2.cfg = s.cfg := by
  rcases busRead_state a s with ⟨_, _, _, _, h⟩ | h <;> rw [h]
@[simp] theorem busRead_cpu : (busRead a s).2.cpu = s.cpu := by
  rcases busRead_state a s with ⟨_, _, _, _, h⟩ | h <;> rw [h]
@[simp] theorem busRead_fault : (busRead a s).2.fault = s.fault := by
  rcases busRead_state a s with ⟨_, _, _, _, h⟩ | h <;> rw [h]
@[simp] theorem busRead_nmiLine : (busRead a s).2.nmiLine = s.nmiLine := by
  rcases busRead_state a s with ⟨_, _, _, _, h⟩ | h <;> rw [h]
@[simp] theorem busRead_irqLine : (busRead a s).2.irqLine = s.irqLine := by
  rcases busRead_state a s with ⟨_, _, _, _, h⟩ | h <;> rw [h]
@[simp] theorem busRead_ram : (busRead a s).2.ram = s.ram := by
  rcases busRead_state a s with ⟨_, _, _, _, h⟩ | h <;> rw [h]
@[simp] theorem busRead_dma : (busRead a s).2.dma = s.dma := by
  rcases busRead_state a s with ⟨_, _, _, _, h⟩ | h <;> rw [h]
@[simp] theorem busRead_irqInput : (busRead a s).2.irqInput = s.irqInput := by
  rcases busRead_state a s with ⟨_, _, _, _, h⟩ | h <;> rw [h]
@[simp] theorem busRead_cycles : (busRead a s).2.cycles = s.cycles := by
  rcases busRead_state a s with ⟨_, _, _, _, h⟩ | h <;> rw [h]
@[simp] theorem busRead_frameOut : (busRead a s).2.frameOut = s.frameOut := by
  rcases busRead_state a s with ⟨_, _, _, _, h⟩ | h <;> rw [h]

@[simp] theorem busWrite_cfg : (busWrite a v s).cfg = s.cfg := by
  rcases busWrite_state a v s with ⟨_, _, h⟩ | ⟨_, _, h⟩ | ⟨_, h⟩ | ⟨_, h⟩ | h <;> rw [h]
@[simp] theorem busWrite_cpu : (busWrite a v s).cpu = s.cpu := by
  rcases busWrite_state a v s with ⟨_, _, h⟩ | ⟨_, _, h⟩ | ⟨_, h⟩ | ⟨_, h⟩ | h <;> rw [h]
@[simp] theorem busWrite_fault : (busWrite a v s).fault = s.fault := by
  rcases busWrite_state a v s with ⟨_, _, h⟩ | ⟨_, _, h⟩ | ⟨_, h⟩ | ⟨_, h⟩ | h <;> rw [h]
@[simp] theorem busWrite_nmiLine : (busWrite a v s).nmiLine = s.nmiLine := by
  rcases busWrite_state a v s with ⟨_, _, h⟩ | ⟨_, _, h⟩ | ⟨_, h⟩ | ⟨_, h⟩ | h <;> rw [h]
@[simp] theorem busWrite_irqLine : (busWrite a v s).irqLine = s.irqLine := by
  rcases busWrite_state a v s with ⟨_, _, h⟩ | ⟨_, _, h⟩ | ⟨_, h⟩ | ⟨_, h⟩ | h <;> rw [h]
@[simp] theorem busWrite_irqInput : (busWrite a v s).irqInput = s.irqInput := by
  rcases busWrite_state a v s with ⟨_, _, h⟩ | ⟨_, _, h⟩ | ⟨_, h⟩ | ⟨_, h⟩ | h <;> rw [h]
@[simp] theorem busWrite_cycles : (busWrite a v s).cycles = s.cycles := by
  rcases busWrite_state a v s with ⟨_, _, h⟩ | ⟨_, _, h⟩ | ⟨_, h⟩ | ⟨_, h⟩ | h <;> rw [h]
@[simp] theorem busWrite_frameOut : (busWrite a v s).frameOut = s.frameOut := by
  rcases busWrite_state a v s with ⟨_, _, h⟩ | ⟨_, _, h⟩ | ⟨_, h⟩ | ⟨_, h⟩ | h <;> rw [h]

end Frames

/-! ### Where fixed addresses go -/

theorem joinBytes_toNat (h l : Byte) : (joinBytes h l).toNat = 256 * h.toNat + l.toNat := by
  unfold joinBytes
  rw [BitVec.toNat_append, Nat.shiftLeft_eq, Nat.mul_comm, ← Nat.two_pow_add_eq_or_of_lt (i := 8) l.isLt]

@[simp] theorem zext16_toNat (b : Byte) : (zext16 b).toNat = b.toNat := by
  have := b.isLt
  simp only [zext16, BitVec.toNat_setWidth]
  omega

theorem hiByte_toNat (w : Word) : (hiByte w).toNat = w.toNat / 256 := by
  have := w.isLt
  simp only [hiByte, BitVec.extractLsb'_toNat, Nat.shiftRight_eq_div_pow]
  omega

theorem loByte_toNat (w : Word) : (loByte w).toNat = w.toNat % 256 := by
  simp only [loByte, BitVec.extractLsb'_toNat, Nat.shiftRight_eq_div_pow]
  omega

@[simp] theorem joinBytes_hi_lo (w : Word) : joinBytes (hiByte w) (loByte w) = w := by
  apply BitVec.eq_of_toNat_eq
  rw [joinBytes_toNat, hiByte_toNat, loByte_toNat]
  omega

@[simp] theorem hiByte_joinBytes (h l : Byte) : hiByte (joinBytes h l) = h := by
  apply BitVec.eq_of_toNat_eq
  have := l.isLt
  rw [hiByte_toNat, joinBytes_toNat]
  omega

@[simp] theorem loByte_joinBytes (h l : Byte) : loByte (joinBytes h l) = l := by
  apply BitVec.eq_of_toNat_eq
  have := l.isLt
  rw [loByte_toNat, joinBytes_toNat]
  omega

/-- The stack lies in work RAM (10_state.md R101). -/
theorem busTarget_stack (cfg : Config) (sp : Byte) : busTarget cfg (stackAddr sp) = .ram (0x100 + sp.toNat) := by
  have := sp.isLt
  have h : (stackAddr sp).toNat = 0x100 + sp.toNat := by
    simp [stackAddr, joinBytes_toNat]
  unfold busTarget
  simp only [h]
  rw [if_pos (by omega), Nat.mod_eq_of_lt (by omega)]

/-- The zero page lies in work RAM (20_memory.md R206). -/
theorem busTarget_zeroPage (cfg : Config) (z : Byte) : busTarget cfg (zext16 z) = .ram z.toNat := by
  have := z.isLt
  unfold busTarget
  simp only [zext16_toNat]
  rw [if_pos (by omega), Nat.mod_eq_of_lt (by omega)]

theorem busRead_zeroPage (z : Byte) (s : State) : busRead (zext16 z) s = (s.ram.read z.toNat, s) := by
  simp only [busRead, busTarget_zeroPage]

/-- A push in closed form (10_state.md R102). -/
theorem push_eq (v : Byte) (s : State) : push v s =
    { s with ram := s.ram.write (0x100 + s.cpu.sp.toNat) v, cpu := { s.cpu with sp := s.cpu.sp - 1 } } := by
  simp only [push, busWrite, busTarget_stack, State.mapCpu]

/-- A pop in closed form (10_state.md R102). -/
theorem pop_eq (s : State) : pop s =
    (s.ram.read (0x100 + (s.cpu.sp + 1).toNat), { s with cpu := { s.cpu with sp := s.cpu.sp + 1 } }) := by
  simp only [pop, busRead, State.mapCpu, busTarget_stack]

/-- The pointer read of the indirect modes in closed form: two zero-page bytes, no side effect (30_encoding.md R310). -/
theorem readZpPointer_eq (z : Byte) (s : State) : readZpPointer z s =
    (joinBytes (s.ram.read (z + 1).toNat) (s.ram.read z.toNat), s) := by
  simp only [readZpPointer, busRead_zeroPage]

/-- A PRG read in closed form (20_memory.md R204, R207). -/
theorem busRead_prg (a : Word) (s : State) (h : 0x8000 ≤ a.toNat) :
    busRead a s = (s.cfg.prg.read ((a.toNat - 0x8000) % s.cfg.prgSize.bytes), s) := by
  have ht : busTarget s.cfg a = .prg ((a.toNat - 0x8000) % s.cfg.prgSize.bytes) := by
    unfold busTarget
    simp only
    rw [if_neg (by omega), if_neg (by omega), if_neg (by omega), if_neg (by omega), if_neg (by omega)]
  simp only [busRead, ht]

/-- The PRG byte an address of $8000 to $FFFF reads. -/
def prgByte (cfg : Config) (a : Word) : Byte := cfg.prg.read ((a.toNat - 0x8000) % cfg.prgSize.bytes)

/-- A word read from PRG, away from the top of the address space, has no side effect. -/
theorem readWord_prg (a : Word) (s : State) (h : 0x8000 ≤ a.toNat) (h1 : 0x8000 ≤ (a + 1).toNat) :
    readWord a s = (joinBytes (prgByte s.cfg (a + 1)) (prgByte s.cfg a), s) := by
  simp only [readWord, busRead_prg a s h, busRead_prg (a + 1) s h1, prgByte]

/-- The word at a vector. -/
def vectorWord (cfg : Config) (vector : Word) : Word := joinBytes (prgByte cfg (vector + 1)) (prgByte cfg vector)

/-- The interrupt entry in closed form, for a vector in PRG: three RAM bytes, SP, the flags B and I, and PC
(60_exceptions.md R603). -/
theorem enterInterrupt_eq (b : Bool) (vector : Word) (s : State) (h : 0x8000 ≤ vector.toNat)
    (h1 : 0x8000 ≤ (vector + 1).toNat) : enterInterrupt b vector s =
    { s with
      ram := ((s.ram.write (0x100 + s.cpu.sp.toNat) (hiByte s.cpu.pc)).write
        (0x100 + (s.cpu.sp - 1).toNat) (loByte s.cpu.pc)).write
        (0x100 + (s.cpu.sp - 1 - 1).toNat) ({ s.cpu.p with b := b } : Status).pack
      cpu := { s.cpu with
        sp := s.cpu.sp - 1 - 1 - 1
        p := { s.cpu.p with b := b, i := true }
        pc := vectorWord s.cfg vector } } := by
  simp only [enterInterrupt, pushWord, push_eq, State.mapCpu, readWord_prg _ _ h h1, State.setPc, vectorWord]

theorem nmiVector_prg : 0x8000 ≤ nmiVector.toNat ∧ 0x8000 ≤ (nmiVector + 1).toNat := by decide
theorem resetVector_prg : 0x8000 ≤ resetVector.toNat ∧ 0x8000 ≤ (resetVector + 1).toNat := by decide
theorem irqVector_prg : 0x8000 ≤ irqVector.toNat ∧ 0x8000 ≤ (irqVector + 1).toNat := by decide

end Sys2Proof.Machine
end

