-- ==== Sys2Proof/Laws/Decode.lean ====
section
/-! SUPPORT. What an entry of the opcode map is: the instruction it makes has the entry's opcode byte, the table's mnemonic and
mode, and the operand bytes it was given. -/

namespace Sys2Proof

/-- The instruction `i` stands in the map at `op` and was made from the operand bytes `bs`. -/
def MadeFrom (i : Instr) (op : Byte) (bs : List Byte) : Prop :=
  i.row.opcode = op ∧ i.row.operand.bytes = bs ∧ (i.row.mnemonic, i.row.operand.mode) = tableEntry op

/-- What a map entry makes of its operand bytes. -/
def Format.Right (op : Byte) : Format → Prop
  | .noOperand i => MadeFrom i op []
  | .byteOperand f => ∀ b, MadeFrom (f b) op [b]
  | .wordOperand f => ∀ w, MadeFrom (f w) op [loByte w, hiByte w]

set_option maxRecDepth 10000 in
/-- Every entry of the opcode map is right (30_encoding.md R300, R314). -/
theorem formatOf_right (op : Byte) : (formatOf op).Right op := by
  have h : ∀ n : Fin 256, (formatOf (BitVec.ofNat 8 n)).Right (BitVec.ofNat 8 n) := by
    intro n
    fin_cases n <;> first
      | exact ⟨rfl, rfl, rfl⟩
      | exact fun _ => ⟨rfl, rfl, rfl⟩
  simpa using h op.toFin

end Sys2Proof
end

