-- ==== Sys2Proof/Laws/Engine.lean ====
section
/-! SUPPORT. What the PPU engine can do: what a dot, a run and the catch-up leave unchanged, and the position of the
counters. -/

namespace Sys2Proof.Machine

/-- The fields the engine may change, changed: the NMI line, the answered frame, two flags, the counters and the two lists of
the frame being built. -/
structure EngineChange (s t : State) : Prop where
  cfg : t.cfg = s.cfg
  cpu : t.cpu = s.cpu
  fault : t.fault = s.fault
  irqLine : t.irqLine = s.irqLine
  ram : t.ram = s.ram
  dma : t.dma = s.dma
  pad : t.pad = s.pad
  irqInput : t.irqInput = s.irqInput
  cycles : t.cycles = s.cycles
  ctrl : t.ppu.ctrl = s.ppu.ctrl
  mask : t.ppu.mask = s.ppu.mask
  oamAddr : t.ppu.oamAddr = s.ppu.oamAddr
  scrollX : t.ppu.scrollX = s.ppu.scrollX
  scrollY : t.ppu.scrollY = s.ppu.scrollY
  vramAddr : t.ppu.vramAddr = s.ppu.vramAddr
  w : t.ppu.w = s.ppu.w
  readBuffer : t.ppu.readBuffer = s.ppu.readBuffer
  chr : t.ppu.chr = s.ppu.chr
  vram : t.ppu.vram = s.ppu.vram
  palette : t.ppu.palette = s.ppu.palette
  oam : t.ppu.oam = s.ppu.oam

theorem EngineChange.refl (s : State) : EngineChange s s := by constructor <;> rfl

theorem EngineChange.trans {s t u : State} (h : EngineChange s t) (k : EngineChange t u) : EngineChange s u := by
  cases h
  cases k
  constructor <;> simp_all

/-- The sprite-0 test changes only the sprite-0 flag (60_exceptions.md R634). -/
theorem sprite0Test_eq (line : Nat) (p : Ppu) : sprite0Test line p = { p with
    sprite0Hit := decide (line = (p.oam.read 0).toNat ∧ p.mask.getLsbD 3 = true ∧ p.mask.getLsbD 4 = true) ||
      p.sprite0Hit } := by
  unfold sprite0Test
  split
  · rename_i h
    simp only [decide_eq_true h, Bool.true_or]
  · rename_i h
    simp only [decide_eq_false h, Bool.false_or]

/-- A tile depends on the PPU only through the control register, the scroll and the memories. -/
theorem bandTile_congr {cfg : Config} {p q : Ppu} (hc : p.ctrl = q.ctrl) (hx : p.scrollX = q.scrollX)
    (hy : p.scrollY = q.scrollY) (h1 : p.chr = q.chr) (h2 : p.vram = q.vram) (h3 : p.palette = q.palette) :
    bandTile cfg p = bandTile cfg q := by
  have hr : ppuRead cfg p = ppuRead cfg q := by
    funext e
    simp only [ppuRead, paletteRead, h1, h2, h3]
  funext k x
  simp only [bandTile, patternAt, hr, hc, hx, hy]

/-- The start of a scanline in closed form (R631). -/
theorem scanlineStart_eq (line : Nat) (s : State) : scanlineStart line s = { s with
    nmiLine := decide (line = 241 ∧ s.ppu.ctrl.getLsbD 7 = true) || s.nmiLine
    ppu := { s.ppu with
      vblank := decide (line = 241) || s.ppu.vblank
      sprite0Hit := (sprite0Test line s.ppu).sprite0Hit
      bgList := s.ppu.bgList ++
        (if line % 8 = 0 ∧ line < 240 then (List.range 33).map (bandTile s.cfg s.ppu (line / 8)) else []) } } := by
  have hb : bandTile s.cfg (sprite0Test line s.ppu) = bandTile s.cfg s.ppu := by
    rw [sprite0Test_eq]
    exact bandTile_congr rfl rfl rfl rfl rfl rfl
  unfold scanlineStart
  simp only [buildBand, hb]
  rw [sprite0Test_eq]
  by_cases h1 : line = 241
  · subst h1
    by_cases hc : s.ppu.ctrl[7] = true <;> simp [vblankStart, hc]
  · by_cases h2 : line % 8 = 0 ∧ line < 240 <;> simp [h1, h2]

/-- The end of a frame in closed form (R633, R638). -/
theorem frameEnd_eq (s : State) : frameEnd s = { s with
    nmiLine := false
    ppu := { s.ppu with
      vblank := false
      sprite0Hit := false
      scanline := 0
      bgList := []
      spriteList := (List.range 64).filterMap (spriteAt s.cfg s.ppu) }
    frameOut := match s.frameOut with
      | some f => some f
      | none => some (emitFrame s.cfg s.ppu) } := rfl

/-- A dot that does not wrap (R630). -/
theorem tick_of_ne {s : State} (h : s.ppu.dot ≠ 340) : tick s = { s with ppu := { s.ppu with dot := s.ppu.dot + 1 } } := by
  unfold tick
  rw [if_neg (by omega)]

/-- A dot that wraps into the next scanline of the frame. -/
theorem tick_of_wrap {s : State} (h : s.ppu.dot = 340) (hl : s.ppu.scanline ≠ 261) :
    tick s = scanlineStart (s.ppu.scanline + 1)
      { s with ppu := { s.ppu with dot := 0, scanline := s.ppu.scanline + 1 } } := by
  unfold tick
  rw [if_pos (by omega), if_neg hl]

/-- A dot that ends the frame. -/
theorem tick_of_frameEnd {s : State} (h : s.ppu.dot = 340) (hl : s.ppu.scanline = 261) :
    tick s = scanlineStart 0 (frameEnd { s with ppu := { s.ppu with dot := 0 } }) := by
  unfold tick
  rw [if_pos (by omega), if_pos hl]

theorem tick_change (s : State) : EngineChange s (tick s) := by
  by_cases h : s.ppu.dot = 340
  · by_cases hl : s.ppu.scanline = 261
    · rw [tick_of_frameEnd h hl, scanlineStart_eq, frameEnd_eq]
      constructor <;> rfl
    · rw [tick_of_wrap h hl, scanlineStart_eq]
      constructor <;> rfl
  · rw [tick_of_ne h]
    constructor <;> rfl

theorem ticks_change (n : Nat) (s : State) : EngineChange s (ticks n s) := by
  induction n generalizing s with
  | zero => exact .refl s
  | succ n ih => exact (tick_change s).trans (ih (tick s))

theorem runPpu_change (n : Nat) (s : State) : EngineChange s (runPpu n s) := by
  refine EngineChange.trans (t := { s with frameOut := none }) ?_ (ticks_change n _)
  constructor <;> rfl

theorem catchUp_change (s : State) : EngineChange s (catchUp s) := by
  unfold catchUp
  split
  · exact runPpu_change _ s
  · constructor <;> rfl

/-- The counters after a dot. -/
theorem tick_counters (s : State) :
    (tick s).ppu.dot = (if s.ppu.dot = 340 then 0 else s.ppu.dot + 1) ∧
    (tick s).ppu.scanline =
      (if s.ppu.dot = 340 then (if s.ppu.scanline = 261 then 0 else s.ppu.scanline + 1) else s.ppu.scanline) := by
  by_cases h : s.ppu.dot = 340
  · by_cases hs : s.ppu.scanline = 261
    · rw [tick_of_frameEnd h hs, scanlineStart_eq, frameEnd_eq]
      simp [h, hs]
    · rw [tick_of_wrap h hs, scanlineStart_eq]
      simp [h, hs]
  · rw [tick_of_ne h]
    simp [h]

/-- A dot answers no frame unless it ends scanline 261. -/
theorem tick_frameOut {s : State} (h : ¬(s.ppu.dot = 340 ∧ s.ppu.scanline = 261)) : (tick s).frameOut = s.frameOut := by
  by_cases hd : s.ppu.dot = 340
  · rw [tick_of_wrap hd (fun hs => h ⟨hd, hs⟩), scanlineStart_eq]
  · rw [tick_of_ne hd]

end Sys2Proof.Machine
end

