-- ==== Sys2Proof/Laws/Operands.lean ====
section
/-! SUPPORT. What the addressing modes and the operand read can do: the state a mode leaves, its payload in the indirect modes
in closed form, and the frame of both. -/

namespace Sys2Proof.Machine

/-- Two addresses cross a page when their page numbers differ (30_encoding.md R302). -/
theorem crosses_eq (a b : Word) : crosses a b = decide (a.toNat / 256 ≠ b.toNat / 256) := by
  rw [crosses, ← hiByte_toNat, ← hiByte_toNat, Bool.eq_iff_iff]
  simp [BitVec.toNat_inj]

/-- A mode other than (abs) makes no access with a side effect: it leaves the state as it is. -/
theorem resolve_state (o : Operand) (s : State) (h : ∀ w, o ≠ .ind w) : (resolve o s).state = s := by
  cases o
  case ind w => exact absurd rfl (h w)
  all_goals simp only [resolve, readZpPointer_eq]

theorem resolve_indX (a : Byte) (s : State) : resolve (.indX a) s =
    ⟨joinBytes (s.ram.read (a + s.cpu.x + 1).toNat) (s.ram.read (a + s.cpu.x).toNat), false, s⟩ := by
  simp only [resolve, readZpPointer_eq]

theorem resolve_indY (a : Byte) (s : State) : resolve (.indY a) s =
    (let base := joinBytes (s.ram.read (a + 1).toNat) (s.ram.read a.toNat)
     ⟨base + zext16 s.cpu.y, crosses base (base + zext16 s.cpu.y), s⟩) := by
  simp only [resolve, readZpPointer_eq]

section Frames
variable (o : Operand) (s : State)

/-- The pointer reads of a mode leave all but the PPU and the controller as they are. -/
theorem resolve_frame : ∃ p c, (resolve o s).state = { s with ppu := p, pad := c } := by
  cases o
  case ind w =>
    simp only [resolve, readIndirect]
    refine ⟨(busRead (joinBytes (hiByte w) (loByte w + 1)) (busRead w s).2).2.ppu,
      (busRead (joinBytes (hiByte w) (loByte w + 1)) (busRead w s).2).2.pad, ?_⟩
    rcases busRead_state w s with ⟨_, _, _, _, h⟩ | h <;>
      rcases busRead_state (joinBytes (hiByte w) (loByte w + 1)) (busRead w s).2 with ⟨_, _, _, _, h'⟩ | h' <;>
      rw [h', h]
  all_goals exact ⟨s.ppu, s.pad, by simp only [resolve, readZpPointer_eq]⟩

@[simp] theorem resolve_cpu : (resolve o s).state.cpu = s.cpu := by
  obtain ⟨p, c, h⟩ := resolve_frame o s
  rw [h]
@[simp] theorem resolve_cfg : (resolve o s).state.cfg = s.cfg := by
  obtain ⟨p, c, h⟩ := resolve_frame o s
  rw [h]
@[simp] theorem resolve_fault : (resolve o s).state.fault = s.fault := by
  obtain ⟨p, c, h⟩ := resolve_frame o s
  rw [h]
@[simp] theorem resolve_ram : (resolve o s).state.ram = s.ram := by
  obtain ⟨p, c, h⟩ := resolve_frame o s
  rw [h]
@[simp] theorem resolve_dma : (resolve o s).state.dma = s.dma := by
  obtain ⟨p, c, h⟩ := resolve_frame o s
  rw [h]
@[simp] theorem resolve_nmiLine : (resolve o s).state.nmiLine = s.nmiLine := by
  obtain ⟨p, c, h⟩ := resolve_frame o s
  rw [h]
@[simp] theorem resolve_irqLine : (resolve o s).state.irqLine = s.irqLine := by
  obtain ⟨p, c, h⟩ := resolve_frame o s
  rw [h]
@[simp] theorem resolve_irqInput : (resolve o s).state.irqInput = s.irqInput := by
  obtain ⟨p, c, h⟩ := resolve_frame o s
  rw [h]
@[simp] theorem resolve_cycles : (resolve o s).state.cycles = s.cycles := by
  obtain ⟨p, c, h⟩ := resolve_frame o s
  rw [h]
@[simp] theorem resolve_frameOut : (resolve o s).state.frameOut = s.frameOut := by
  obtain ⟨p, c, h⟩ := resolve_frame o s
  rw [h]

/-- The read of an operand, for every form but Immediate, is one bus read at the payload. -/
theorem readOperand_eq (h : ∀ v, o ≠ .imm v) : readOperand o s =
    ((busRead (resolve o s).payload (resolve o s).state).1, (resolve o s).extra,
      (busRead (resolve o s).payload (resolve o s).state).2) := by
  cases o
  case imm v => exact absurd rfl (h v)
  all_goals rfl

/-- The state an operand read leaves: the state itself (Immediate), or the one after the bus read at the payload. -/
theorem readOperand_state : (readOperand o s).2.2 = s ∨
    (readOperand o s).2.2 = (busRead (resolve o s).payload (resolve o s).state).2 := by
  cases o
  case imm v => exact .inl rfl
  all_goals exact .inr rfl

@[simp] theorem readOperand_cpu : (readOperand o s).2.2.cpu = s.cpu := by
  rcases readOperand_state o s with h | h <;> simp [h]
@[simp] theorem readOperand_cfg : (readOperand o s).2.2.cfg = s.cfg := by
  rcases readOperand_state o s with h | h <;> simp [h]
@[simp] theorem readOperand_fault : (readOperand o s).2.2.fault = s.fault := by
  rcases readOperand_state o s with h | h <;> simp [h]
@[simp] theorem readOperand_ram : (readOperand o s).2.2.ram = s.ram := by
  rcases readOperand_state o s with h | h <;> simp [h]
@[simp] theorem readOperand_dma : (readOperand o s).2.2.dma = s.dma := by
  rcases readOperand_state o s with h | h <;> simp [h]
@[simp] theorem readOperand_nmiLine : (readOperand o s).2.2.nmiLine = s.nmiLine := by
  rcases readOperand_state o s with h | h <;> simp [h]
@[simp] theorem readOperand_irqLine : (readOperand o s).2.2.irqLine = s.irqLine := by
  rcases readOperand_state o s with h | h <;> simp [h]
@[simp] theorem readOperand_irqInput : (readOperand o s).2.2.irqInput = s.irqInput := by
  rcases readOperand_state o s with h | h <;> simp [h]
@[simp] theorem readOperand_cycles : (readOperand o s).2.2.cycles = s.cycles := by
  rcases readOperand_state o s with h | h <;> simp [h]
@[simp] theorem readOperand_frameOut : (readOperand o s).2.2.frameOut = s.frameOut := by
  rcases readOperand_state o s with h | h <;> simp [h]

end Frames

end Sys2Proof.Machine
end

