-- ==== Sys2Proof/Laws/Exec.lean ====
section
/-! SUPPORT. The dispatch by mnemonic: `exec i` is the meaning of the mnemonic of `i`'s row, run on that row, so a fact about
all 256 constructors follows from 65 cases, and every meaning answers a next state. -/

namespace Sys2Proof.Machine

/-- The meaning of a mnemonic, over any row. -/
def execRow (r : Row) : State → Out :=
  match r.mnemonic with
  | .lda => opLda r
  | .ldx => opLdx r
  | .ldy => opLdy r
  | .lax => opLax r
  | .sta => opSta r
  | .stx => opStx r
  | .sty => opSty r
  | .sax => opSax r
  | .tax => opTax r
  | .tay => opTay r
  | .txa => opTxa r
  | .tya => opTya r
  | .tsx => opTsx r
  | .txs => opTxs r
  | .adc => opAdc r
  | .sbc => opSbc r
  | .and => opAnd r
  | .ora => opOra r
  | .eor => opEor r
  | .bit => opBit r
  | .cmp => opCmp r
  | .cpx => opCpx r
  | .cpy => opCpy r
  | .inc => opInc r
  | .dec => opDec r
  | .inx => opInx r
  | .iny => opIny r
  | .dex => opDex r
  | .dey => opDey r
  | .asl => opAsl r
  | .lsr => opLsr r
  | .rol => opRol r
  | .ror => opRor r
  | .slo => opSlo r
  | .rla => opRla r
  | .sre => opSre r
  | .rra => opRra r
  | .dcp => opDcp r
  | .isb => opIsb r
  | .bcc => opBcc r
  | .bcs => opBcs r
  | .beq => opBeq r
  | .bne => opBne r
  | .bmi => opBmi r
  | .bpl => opBpl r
  | .bvc => opBvc r
  | .bvs => opBvs r
  | .jmp => opJmp r
  | .jsr => opJsr r
  | .rts => opRts r
  | .rti => opRti r
  | .brk => opBrk r
  | .pha => opPha r
  | .pla => opPla r
  | .php => opPhp r
  | .plp => opPlp r
  | .clc => opClc r
  | .sec => opSec r
  | .cli => opCli r
  | .sei => opSei r
  | .clv => opClv r
  | .cld => opCld r
  | .sed => opSed r
  | .nop => opNop r
  | .undef => opUndef r

/-- Every arm of `exec` runs its row. -/
theorem exec_eq_execRow (i : Instr) (s : State) : exec i s = execRow i.row s := by
  cases i <;> rfl

/-- A read-class instruction in closed form: the state after the operand read, with `f` applied to the registers. -/
theorem readInstr_eq (r : Row) (f : Byte → Cpu → Cpu) (s : State) : readInstr r f s =
    .next { (readOperand r.operand s).2.2 with
      cpu := f (readOperand r.operand s).1 s.cpu
      cycles := cost s.cfg r.opcode r.mnemonic r.operand.mode (readOperand r.operand s).2.1 false } := by
  simp only [readInstr, finish, State.mapCpu, readOperand_cpu, readOperand_cfg]

/-- A store in closed form: one bus write at the payload. -/
theorem storeInstr_eq (r : Row) (value : Cpu → Byte) (s : State) : storeInstr r value s =
    .next { busWrite (resolve r.operand s).payload (value s.cpu) (resolve r.operand s).state with
      cycles := cost s.cfg r.opcode r.mnemonic r.operand.mode (resolve r.operand s).extra false } := by
  simp only [storeInstr, finish, busWrite_cfg, resolve_cfg, resolve_cpu]

/-- An implied instruction in closed form. -/
theorem impliedInstr_eq (r : Row) (f : Cpu → Cpu) (s : State) : impliedInstr r f s =
    .next { s with cpu := f s.cpu, cycles := cost s.cfg r.opcode r.mnemonic r.operand.mode false false } := rfl

/-- A read-modify-write instruction in closed form: A changed in the accumulator form, else one bus read and one bus write
at the payload. -/
theorem rmwInstr_eq (op : Byte) (mn : Mnemonic) (o : Operand) (f : Byte → Status → Byte × Status) (g : Byte → Cpu → Cpu)
    (s : State) : rmwInstr ⟨op, mn, o⟩ f g s =
      if o = .accumulator then
        .next { s with
          cpu := { s.cpu with a := (f s.cpu.a s.cpu.p).1, p := (f s.cpu.a s.cpu.p).2 }
          cycles := cost s.cfg op mn .accumulator false false }
      else
        (let a := resolve o s
         let m := busRead a.payload a.state
         let w := f m.1 s.cpu.p
         .next { busWrite a.payload w.1 m.2 with
           cpu := g w.1 { s.cpu with p := w.2 }
           cycles := cost s.cfg op mn o.mode a.extra false }) := by
  cases o
  case accumulator => rfl
  all_goals simp only [rmwInstr, finish, State.mapCpu, busWrite_cpu, busWrite_cfg, busRead_cpu, busRead_cfg, resolve_cpu,
    resolve_cfg, reduceCtorEq, if_false]

/-- A branch in closed form: it makes no access, and PC becomes the payload when it is taken. -/
theorem branchInstr_eq (op : Byte) (mn : Mnemonic) (off : Byte) (cond : Status → Bool) (s : State) :
    branchInstr ⟨op, mn, .rel off⟩ cond s =
      .next { s with
        cpu := { s.cpu with pc := if cond s.cpu.p then branchTarget off s else s.cpu.pc }
        cycles := cost s.cfg op mn .relative (crosses (branchReference s) (branchTarget off s)) (cond s.cpu.p) } := by
  cases h : cond s.cpu.p <;> simp only [branchInstr, resolve, finish, State.setPc, h, Operand.mode] <;> rfl

/-- A branch over any row changes only the CPU registers and the cycle count after its operand's resolution. -/
theorem branchInstr_next (r : Row) (cond : Status → Bool) (s : State) : ∃ c n, branchInstr r cond s =
    .next { (resolve r.operand s).state with cpu := c, cycles := n } := by
  cases h : cond s.cpu.p
  · exact ⟨_, _, by simp only [branchInstr, h, finish]; rfl⟩
  · exact ⟨_, _, by simp only [branchInstr, h, finish, State.setPc]; rfl⟩

/-- Every instruction answers a next state. -/
theorem execRow_next (r : Row) (s : State) : ∃ t, execRow r s = .next t := by
  obtain ⟨op, mn, o⟩ := r
  cases mn
  case asl | lsr | rol | ror | slo | rla | sre | rra | dcp | isb | inc | dec =>
    cases o <;> exact ⟨_, rfl⟩
  all_goals exact ⟨_, rfl⟩

theorem exec_next (i : Instr) (s : State) : ∃ t, exec i s = .next t := by
  rw [exec_eq_execRow]
  exact execRow_next i.row s

/-- The four stores, and the read-modify-write instructions. -/
def storeMnemonics : List Mnemonic := [.sta, .stx, .sty, .sax]
def rmwMnemonics : List Mnemonic := [.inc, .dec, .asl, .lsr, .rol, .ror, .slo, .rla, .sre, .rra, .dcp, .isb]

/-- What an instruction can have done to everything but the CPU registers, the cycle count and the fault when it is done:
nothing, an operand read, the pointer reads of (abs), a store, a read and a write, or pushes. -/
inductive Effect (r : Row) (s : State) : State → Prop where
  | same : Effect r s s
  | read : Effect r s (readOperand r.operand s).2.2
  | resolved : Effect r s (resolve r.operand s).state
  | store (v : Byte) : r.mnemonic ∈ storeMnemonics →
      Effect r s (busWrite (resolve r.operand s).payload v (resolve r.operand s).state)
  | readWrite (v : Byte) : r.mnemonic ∈ rmwMnemonics → r.operand ≠ .accumulator →
      Effect r s (busWrite (resolve r.operand s).payload v
        (busRead (resolve r.operand s).payload (resolve r.operand s).state).2)
  | push1 (v : Byte) : r.mnemonic = .pha ∨ r.mnemonic = .php →
      Effect r s { s with ram := s.ram.write (0x100 + s.cpu.sp.toNat) v }
  | push2 (v w : Byte) : r.mnemonic = .jsr →
      Effect r s { (resolve r.operand s).state with
        ram := (s.ram.write (0x100 + s.cpu.sp.toNat) v).write (0x100 + (s.cpu.sp - 1).toNat) w }
  | push3 (v w x : Byte) : r.mnemonic = .brk →
      Effect r s { s with
        ram := ((s.ram.write (0x100 + s.cpu.sp.toNat) v).write (0x100 + (s.cpu.sp - 1).toNat) w).write
          (0x100 + (s.cpu.sp - 1 - 1).toNat) x }

/-- Every instruction has one of these effects, and besides it changes only the CPU registers, the cycle count and, for
UNDEF, the fault. -/
theorem execRow_effect {r : Row} {s t : State} (h : execRow r s = .next t) :
    ∃ u c n f, Effect r s u ∧ t = { u with cpu := c, cycles := n, fault := f } ∧
      (r.mnemonic ≠ .undef → f = s.fault) := by
  obtain ⟨op, mn, o⟩ := r
  cases mn <;>
    simp only [execRow, opLda, opLdx, opLdy, opLax, opSta, opStx, opSty, opSax, opTax, opTay, opTxa, opTya, opTsx, opTxs, opAdc,
    opSbc, opAnd, opOra, opEor, opBit, opCmp, opCpx, opCpy, opInc, opDec, opInx, opIny, opDex, opDey, opAsl,
    opLsr, opRol, opRor, opSlo, opRla, opSre, opRra, opDcp, opIsb, opBcc, opBcs, opBeq, opBne, opBmi, opBpl,
    opBvc, opBvs, opJmp, opJsr, opRts, opRti, opBrk, opPha, opPla, opPhp, opPlp, opClc, opSec, opCli, opSei,
    opClv, opCld, opSed, opNop, opUndef,
      readInstr_eq, storeInstr_eq, impliedInstr_eq, rmwInstr_eq, push_eq, pop_eq, pushWord, popWord,
      returnFromInterrupt, enterInterrupt_eq _ _ _ irqVector_prg.1 irqVector_prg.2, finish, raiseFault, State.setPc,
      State.mapCpu, resolve_cpu] at h
  case lda | ldx | ldy | lax | adc | sbc | and | ora | eor | bit | cmp | cpx | cpy =>
    injection h with h
    exact ⟨_, _, _, _, .read, h.symm, fun _ => by simp⟩
  case sta | stx | sty | sax =>
    injection h with h
    exact ⟨_, _, _, _, .store _ (by simp [storeMnemonics]), h.symm, fun _ => by simp⟩
  case inc | dec | asl | lsr | rol | ror | slo | rla | sre | rra | dcp | isb =>
    split at h
    · injection h with h
      exact ⟨_, _, _, _, .same, h.symm, fun _ => rfl⟩
    · injection h with h
      exact ⟨_, _, _, _, .readWrite _ (by simp [rmwMnemonics]) ‹_›, h.symm, fun _ => by simp⟩
  case bcc | bcs | beq | bne | bmi | bpl | bvc | bvs =>
    obtain ⟨c, n, hb⟩ := branchInstr_next ⟨op, _, o⟩ _ s
    rw [hb] at h
    injection h with h
    exact ⟨_, _, _, _, .resolved, h.symm, fun _ => by simp⟩
  case jmp | nop =>
    injection h with h
    exact ⟨_, _, _, _, .resolved, h.symm, fun _ => by simp⟩
  case pha | php =>
    injection h with h
    exact ⟨_, _, _, _, .push1 _ (by simp), h.symm, fun _ => rfl⟩
  case jsr =>
    simp only [resolve_ram] at h
    injection h with h
    exact ⟨_, _, _, _, .push2 _ _ rfl, h.symm, fun _ => by simp⟩
  case brk =>
    injection h with h
    exact ⟨_, _, _, _, .push3 _ _ _ rfl, h.symm, fun _ => rfl⟩
  case undef =>
    injection h with h
    exact ⟨_, _, _, _, .same, h.symm, fun hn => absurd rfl hn⟩
  all_goals
    injection h with h
    exact ⟨_, _, _, _, .same, h.symm, fun _ => rfl⟩

end Sys2Proof.Machine
end

