-- ==== Sys2Proof/Laws/Invariant.lean ====
section
/-! SUPPORT. What keeps the parts of the invariant: every bus access keeps the memories, the lists and the ranges, and so does
every dot of the engine. -/

namespace Sys2Proof.Machine

/-! ### Indexes stay in their stores -/

theorem and_lt (a m : Nat) : a &&& m < m + 1 := Nat.lt_succ_of_le Nat.and_le_right

theorem ntMap_lt (m : Mirroring) (o : Nat) : ntMap m o < 2048 := by
  cases m
  · simp only [ntMap]
    have h1 : o &&& 0x03FF < 2 ^ 11 := Nat.lt_of_lt_of_le (and_lt o _) (by decide)
    have h2 : (o &&& 0x0800) >>> 1 < 2 ^ 11 := by
      have := and_lt o 0x0800
      rw [Nat.shiftRight_eq_div_pow]
      omega
    exact Nat.or_lt_two_pow h1 h2
  · exact Nat.lt_of_lt_of_le (and_lt o _) (by decide)

/-- The index a palette write stores at: below 32 and never one of the four mirrors (20_memory.md R223). -/
theorem paletteFold (e : Nat) :
    (if isPaletteMirror (e &&& 0x1F) then (e &&& 0x1F) - 0x10 else e &&& 0x1F) < 32 ∧
      isPaletteMirror (if isPaletteMirror (e &&& 0x1F) then (e &&& 0x1F) - 0x10 else e &&& 0x1F) = false := by
  have h : ∀ n : Fin 32, (if isPaletteMirror n then (n : Nat) - 0x10 else n) < 32 ∧
      isPaletteMirror (if isPaletteMirror n then (n : Nat) - 0x10 else n) = false := by decide
  exact h ⟨e &&& 0x1F, and_lt e 0x1F⟩

/-- RAM indexes lie in RAM. -/
theorem busTarget_ram_lt {cfg : Config} {a : Word} {i : Nat} (h : busTarget cfg a = .ram i) : i < 2048 := by
  unfold busTarget at h
  simp only at h
  repeat' split at h
  all_goals first
    | (injection h with h; omega)
    | simp at h

/-! ### The memories -/

/-- MemoriesOk speaks of six fields only. -/
theorem MemoriesOk.congr {s t : State} (h : MemoriesOk s) (h1 : t.ram = s.ram) (h2 : t.cfg = s.cfg)
    (h3 : t.ppu.chr = s.ppu.chr) (h4 : t.ppu.vram = s.ppu.vram) (h5 : t.ppu.palette = s.ppu.palette)
    (h6 : t.ppu.oam = s.ppu.oam) : MemoriesOk t := by
  constructor
  · rw [h1]; exact h.ram
  · rw [h2]; exact h.prg
  · rw [h3]; exact h.chr
  · rw [h4]; exact h.vram
  · rw [h5]; exact h.palette
  · rw [h6]; exact h.oam
  · rw [h5]; exact h.folded

/-- A RAM write inside RAM keeps the memories. -/
theorem MemoriesOk.writeRam {s : State} (h : MemoriesOk s) {i : Nat} (hi : i < 2048) (v : Byte) :
    MemoriesOk { s with ram := s.ram.write i v } :=
  { h with ram := ⟨Memory.write_wf h.ram.1 i v, Memory.write_below h.ram.2 hi v⟩ }

/-- An OAM write inside OAM keeps the memories. -/
theorem MemoriesOk.writeOam {s : State} (h : MemoriesOk s) {i : Nat} (hi : i < 256) (v : Byte) :
    MemoriesOk { s with ppu := { s.ppu with oam := s.ppu.oam.write i v } } :=
  { h with oam := ⟨Memory.write_wf h.oam.1 i v, Memory.write_below h.oam.2 hi v⟩ }

/-- A PPU-bus write below $4000 keeps the memories (20_memory.md R221). -/
theorem MemoriesOk.ppuWrite {s : State} (h : MemoriesOk s) (e : Nat) (v : Byte) :
    MemoriesOk { s with ppu := ppuWrite s.cfg s.ppu e v } := by
  unfold Sys2Proof.Machine.ppuWrite
  split
  · split
    · exact { h with chr := ⟨Memory.write_wf h.chr.1 _ v, Memory.write_below h.chr.2 (by omega) v⟩ }
    · exact h
  · split
    · exact { h with vram := ⟨Memory.write_wf h.vram.1 _ v, Memory.write_below h.vram.2 (ntMap_lt _ _) v⟩ }
    · refine { h with
        palette := ⟨Memory.write_wf h.palette.1 _ v, Memory.write_below h.palette.2 (paletteFold e).1 v⟩
        folded := fun c hc => ?_ }
      rcases Memory.mem_write hc with ⟨rfl, -⟩ | hc
      · exact (paletteFold e).2
      · exact h.folded c hc

/-- A bus read keeps the memories. -/
theorem MemoriesOk.busRead {s : State} (h : MemoriesOk s) (a : Word) : MemoriesOk (busRead a s).2 := by
  rcases busRead_state a s with ⟨_, _, _, _, e⟩ | e <;> rw [e] <;> exact h.congr rfl rfl rfl rfl rfl rfl

/-- A bus write keeps the memories. -/
theorem MemoriesOk.busWrite {s : State} (h : MemoriesOk s) (a : Word) (v : Byte) : MemoriesOk (busWrite a v s) := by
  rcases busWrite_state a v s with ⟨i, hi, e⟩ | ⟨r, -, e⟩ | ⟨-, e⟩ | ⟨-, e⟩ | e <;> rw [e]
  · exact h.writeRam (busTarget_ram_lt hi) v
  · cases r
    case oamData =>
      exact (h.writeOam s.ppu.oamAddr.isLt v).congr rfl rfl rfl rfl rfl rfl
    case data =>
      refine (h.ppuWrite (effectiveAddr s.ppu) v).congr rfl rfl rfl rfl rfl rfl
    case scroll =>
      simp only [ppuRegWrite, scrollWrite]
      split <;> exact h.congr rfl rfl rfl rfl rfl rfl
    case addr =>
      simp only [ppuRegWrite, addrWrite]
      split <;> exact h.congr rfl rfl rfl rfl rfl rfl
    all_goals exact h.congr rfl rfl rfl rfl rfl rfl
  all_goals exact h.congr rfl rfl rfl rfl rfl rfl

/-! ### What the CPU side keeps -/

/-- What the accesses of the CPU, of an instruction, of an interrupt entry and of the DMA unit keep: the configuration, the
result of the latest run of the PPU, the engine's counters, lists and sprite-0 flag, the live buttons, CHR-ROM, the range
of the controller index and the canonical form of the memories. -/
structure CpuSideKept (s t : State) : Prop where
  cfg : t.cfg = s.cfg
  frameOut : t.frameOut = s.frameOut
  dot : t.ppu.dot = s.ppu.dot
  scanline : t.ppu.scanline = s.ppu.scanline
  bgList : t.ppu.bgList = s.ppu.bgList
  spriteList : t.ppu.spriteList = s.ppu.spriteList
  sprite0Hit : t.ppu.sprite0Hit = s.ppu.sprite0Hit
  liveButtons : t.pad.liveButtons = s.pad.liveButtons
  chrRom : s.cfg.chrIsRam = false → t.ppu.chr = s.ppu.chr
  index : s.pad.index ≤ 8 → t.pad.index ≤ 8
  memories : MemoriesOk s → MemoriesOk t

theorem CpuSideKept.refl (s : State) : CpuSideKept s s :=
  ⟨rfl, rfl, rfl, rfl, rfl, rfl, rfl, rfl, fun _ => rfl, id, id⟩

theorem CpuSideKept.trans {s t u : State} (h : CpuSideKept s t) (k : CpuSideKept t u) : CpuSideKept s u where
  cfg := k.cfg.trans h.cfg
  frameOut := k.frameOut.trans h.frameOut
  dot := k.dot.trans h.dot
  scanline := k.scanline.trans h.scanline
  bgList := k.bgList.trans h.bgList
  spriteList := k.spriteList.trans h.spriteList
  sprite0Hit := k.sprite0Hit.trans h.sprite0Hit
  liveButtons := k.liveButtons.trans h.liveButtons
  chrRom := fun e => (k.chrRom (by rw [h.cfg, e])).trans (h.chrRom e)
  index := k.index ∘ h.index
  memories := k.memories ∘ h.memories

/-- A change of the CPU registers, the lines, the DMA register, the cycle count, the fault and the IRQ schedule only. -/
theorem CpuSideKept.ofRest {s t : State} (h1 : t.cfg = s.cfg) (h2 : t.ram = s.ram) (h3 : t.ppu = s.ppu)
    (h4 : t.pad = s.pad) (h5 : t.frameOut = s.frameOut) : CpuSideKept s t := by
  constructor
  case memories => exact fun h => h.congr h2 h1 (by rw [h3]) (by rw [h3]) (by rw [h3]) (by rw [h3])
  all_goals simp [h1, h3, h4, h5]

theorem CpuSideKept.writeRam (s : State) {i : Nat} (hi : i < 2048) (v : Byte) :
    CpuSideKept s { s with ram := s.ram.write i v } :=
  ⟨rfl, rfl, rfl, rfl, rfl, rfl, rfl, rfl, fun _ => rfl, id, fun h => h.writeRam hi v⟩

theorem CpuSideKept.busRead (a : Word) (s : State) : CpuSideKept s (busRead a s).2 := by
  rcases busRead_state a s with ⟨_, _, _, _, e⟩ | e
  · rw [e]
    exact ⟨rfl, rfl, rfl, rfl, rfl, rfl, rfl, rfl, fun _ => rfl, id, fun h => h.congr rfl rfl rfl rfl rfl rfl⟩
  · rw [e]
    refine ⟨rfl, rfl, rfl, rfl, rfl, rfl, rfl, ?_, fun _ => rfl, fun h => ?_, fun h => h.congr rfl rfl rfl rfl rfl rfl⟩
    · simp only [Controller.read]
      split <;> rfl
    · simp only [Controller.read]
      split <;> simp only <;> omega

theorem CpuSideKept.busWrite (a : Word) (v : Byte) (s : State) : CpuSideKept s (busWrite a v s) := by
  have hm : MemoriesOk s → MemoriesOk (Sys2Proof.Machine.busWrite a v s) := fun h => h.busWrite a v
  rcases busWrite_state a v s with ⟨_, _, e⟩ | ⟨r, _, e⟩ | ⟨_, e⟩ | ⟨_, e⟩ | e <;> rw [e] at hm ⊢
  · exact ⟨rfl, rfl, rfl, rfl, rfl, rfl, rfl, rfl, fun _ => rfl, id, hm⟩
  · obtain ⟨_, _, _, _, _, _, _, chr, _, _, _, k⟩ := ppuRegWrite_keeps s.cfg r v s.ppu
    refine ⟨rfl, rfl, by rw [k], by rw [k], by rw [k], by rw [k], by rw [k], rfl, fun hr => ?_, id, hm⟩
    cases r <;> simp only [ppuRegWrite, oamDataWrite, scrollWrite, addrWrite, dataWrite, ppuWrite, paletteWrite, hr] <;>
      (repeat' split) <;> first | rfl | contradiction
  · exact ⟨rfl, rfl, rfl, rfl, rfl, rfl, rfl, rfl, fun _ => rfl, id, hm⟩
  · refine ⟨rfl, rfl, rfl, rfl, rfl, rfl, rfl, ?_, fun _ => rfl, fun h => ?_, hm⟩
    · simp only [Controller.write]
      repeat' split
      all_goals rfl
    · simp only [Controller.write]
      repeat' split
      all_goals simp_all
  · exact .refl s

/-- The pages of the stack lie in RAM. -/
theorem stack_lt (sp : Byte) : 0x100 + sp.toNat < 2048 := by
  have := sp.isLt
  omega

theorem CpuSideKept.resolve (o : Operand) (s : State) : CpuSideKept s (resolve o s).state := by
  cases o
  case ind w => exact (CpuSideKept.busRead _ s).trans (CpuSideKept.busRead _ _)
  all_goals
    simp only [Sys2Proof.Machine.resolve, readZpPointer_eq]
    exact .refl s

theorem CpuSideKept.readOperand (o : Operand) (s : State) : CpuSideKept s (readOperand o s).2.2 := by
  cases o
  case imm v => exact .refl s
  all_goals exact (CpuSideKept.resolve _ s).trans (CpuSideKept.busRead _ _)

/-- What the effect of an instruction keeps. -/
theorem Effect.keeps {r : Row} {s u : State} (h : Effect r s u) : CpuSideKept s u := by
  cases h with
  | same => exact .refl s
  | read => exact .readOperand _ s
  | resolved => exact .resolve _ s
  | store v => exact (CpuSideKept.resolve _ s).trans (.busWrite _ _ _)
  | readWrite v => exact ((CpuSideKept.resolve _ s).trans (.busRead _ _)).trans (.busWrite _ _ _)
  | push1 v => exact .writeRam s (stack_lt _) v
  | push2 v w =>
    have hr : (Sys2Proof.Machine.resolve r.operand s).state.ram = s.ram := by simp
    have k := ((CpuSideKept.resolve r.operand s).trans (.writeRam _ (stack_lt s.cpu.sp) v)).trans
      (.writeRam _ (stack_lt (s.cpu.sp - 1)) w)
    simp only [hr] at k
    exact k
  | push3 v w x =>
    exact ((CpuSideKept.writeRam s (stack_lt s.cpu.sp) v).trans (.writeRam _ (stack_lt (s.cpu.sp - 1)) w)).trans
      (.writeRam _ (stack_lt (s.cpu.sp - 1 - 1)) x)

/-- What an instruction keeps. -/
theorem CpuSideKept.exec {i : Instr} {s t : State} (h : exec i s = .next t) : CpuSideKept s t := by
  rw [exec_eq_execRow] at h
  obtain ⟨u, c, n, f, hu, rfl, -⟩ := execRow_effect h
  exact hu.keeps.trans (.ofRest rfl rfl rfl rfl rfl)

/-! ### The engine -/

/-- A sprite of the list came from OAM, with its Y less one (60_exceptions.md R637). -/
theorem spriteAt_some {cfg : Config} {p : Ppu} {i : Nat} {q : Sprite} (h : spriteAt cfg p i = some q) :
    q.oamIndex = i ∧ 1 ≤ q.y.toNat ∧ q.y.toNat ≤ 254 ∧ q.pattern.length = 16 := by
  unfold spriteAt at h
  simp only at h
  split at h
  · rename_i hy
    injection h with h
    subst h
    have hl := (p.oam.read (4 * i)).isLt
    have e : (p.oam.read (4 * i) - 1).toNat = (p.oam.read (4 * i)).toNat - 1 := by
      rw [BitVec.toNat_sub, show (1 : Byte).toNat = 1 from rfl]
      omega
    refine ⟨rfl, ?_, ?_, by simp [patternAt]⟩ <;> simp only [e] <;> omega
  · simp at h

/-- The sprites of a list over an increasing list of indexes are in that order. -/
theorem spritePairwise (cfg : Config) (p : Ppu) {l : List Nat} (h : l.Pairwise (· < ·)) :
    (l.filterMap (spriteAt cfg p)).Pairwise fun q r => q.oamIndex < r.oamIndex := by
  refine List.Pairwise.filterMap _ ?_ h
  intro a b hab q hq r hr
  rw [(spriteAt_some hq).1, (spriteAt_some hr).1]
  exact hab

/-- The lists of a dot: every dot keeps their shape. -/
theorem ListsOk.tick {s : State} (h : ListsOk s.ppu) (hd : s.ppu.scanline < 262) : ListsOk (tick s).ppu := by
  have tiles : ∀ (cfg : Config) (p : Ppu) (k : Nat), ∀ t ∈ (List.range 33).map (bandTile cfg p k), t.pattern.length = 16 := by
    intro cfg p k t ht
    obtain ⟨x, -, rfl⟩ := List.mem_map.mp ht
    simp [bandTile, patternAt]
  by_cases hdot : s.ppu.dot = 340
  · by_cases hs : s.ppu.scanline = 261
    · rw [tick_of_frameEnd hdot hs, scanlineStart_eq, frameEnd_eq]
      constructor
      · simp [bandsBuilt]
      · simpa using tiles _ _ _
      · intro q hq
        obtain ⟨i, hi, hq⟩ := List.mem_filterMap.mp hq
        obtain ⟨h1, h2⟩ := spriteAt_some hq
        exact ⟨by rw [h1]; exact List.mem_range.mp hi, h2⟩
      · exact spritePairwise _ _ List.pairwise_lt_range
    · rw [tick_of_wrap hdot hs, scanlineStart_eq]
      refine ⟨?_, ?_, h.sprites, h.order⟩
      · have := h.bands
        simp only [bandsBuilt, List.length_append] at this ⊢
        rw [this]
        split
        · simp only [List.length_map, List.length_range]
          omega
        · simp only [List.length_nil]
          omega
      · intro t ht
        rcases List.mem_append.mp ht with ht | ht
        · exact h.tiles t ht
        · split at ht
          · exact tiles _ _ _ t ht
          · simp at ht
  · rw [tick_of_ne hdot]
    exact ⟨h.bands, h.tiles, h.sprites, h.order⟩

end Sys2Proof.Machine
end

