-- ==== Sys2Proof/Laws/PerInstr.lean ====
section
/-! SUPPORT. The family TableRow: every instruction's row is a row of the opcode table. One lemma per constructor. -/

namespace Sys2Proof.Laws.TableRow

open Sys2Proof

/-- The instruction is well formed: the table gives its opcode byte its mnemonic and its mode (30_encoding.md R301, R314). -/
def Statement (i : Instr) : Prop := i.wellFormed = true

/-- A row whose opcode byte the table gives this mnemonic and mode. -/
theorem of_entry {i : Instr} {op : Byte} {mn : Mnemonic} {o : Operand} (h : i.row = ⟨op, mn, o⟩)
    (e : (tableEntry op == (mn, o.mode)) = true) : Statement i := by
  unfold Statement Instr.wellFormed Row.wellFormed
  rw [h]
  exact e

theorem ldaIndX (zp : Byte) : Statement (.ldaIndX zp) := of_entry rfl (show (tableEntry 0xA1 == (.lda, .indirectX)) = true by decide)
theorem ldaZp (zp : Byte) : Statement (.ldaZp zp) := of_entry rfl (show (tableEntry 0xA5 == (.lda, .zeroPage)) = true by decide)
theorem ldaImm (v : Byte) : Statement (.ldaImm v) := of_entry rfl (show (tableEntry 0xA9 == (.lda, .immediate)) = true by decide)
theorem ldaAbs (w : Word) : Statement (.ldaAbs w) := of_entry rfl (show (tableEntry 0xAD == (.lda, .absolute)) = true by decide)
theorem ldaIndY (zp : Byte) : Statement (.ldaIndY zp) := of_entry rfl (show (tableEntry 0xB1 == (.lda, .indirectY)) = true by decide)
theorem ldaZpX (zp : Byte) : Statement (.ldaZpX zp) := of_entry rfl (show (tableEntry 0xB5 == (.lda, .zeroPageX)) = true by decide)
theorem ldaAbsY (w : Word) : Statement (.ldaAbsY w) := of_entry rfl (show (tableEntry 0xB9 == (.lda, .absoluteY)) = true by decide)
theorem ldaAbsX (w : Word) : Statement (.ldaAbsX w) := of_entry rfl (show (tableEntry 0xBD == (.lda, .absoluteX)) = true by decide)
theorem ldxImm (v : Byte) : Statement (.ldxImm v) := of_entry rfl (show (tableEntry 0xA2 == (.ldx, .immediate)) = true by decide)
theorem ldxZp (zp : Byte) : Statement (.ldxZp zp) := of_entry rfl (show (tableEntry 0xA6 == (.ldx, .zeroPage)) = true by decide)
theorem ldxAbs (w : Word) : Statement (.ldxAbs w) := of_entry rfl (show (tableEntry 0xAE == (.ldx, .absolute)) = true by decide)
theorem ldxZpY (zp : Byte) : Statement (.ldxZpY zp) := of_entry rfl (show (tableEntry 0xB6 == (.ldx, .zeroPageY)) = true by decide)
theorem ldxAbsY (w : Word) : Statement (.ldxAbsY w) := of_entry rfl (show (tableEntry 0xBE == (.ldx, .absoluteY)) = true by decide)
theorem ldyImm (v : Byte) : Statement (.ldyImm v) := of_entry rfl (show (tableEntry 0xA0 == (.ldy, .immediate)) = true by decide)
theorem ldyZp (zp : Byte) : Statement (.ldyZp zp) := of_entry rfl (show (tableEntry 0xA4 == (.ldy, .zeroPage)) = true by decide)
theorem ldyAbs (w : Word) : Statement (.ldyAbs w) := of_entry rfl (show (tableEntry 0xAC == (.ldy, .absolute)) = true by decide)
theorem ldyZpX (zp : Byte) : Statement (.ldyZpX zp) := of_entry rfl (show (tableEntry 0xB4 == (.ldy, .zeroPageX)) = true by decide)
theorem ldyAbsX (w : Word) : Statement (.ldyAbsX w) := of_entry rfl (show (tableEntry 0xBC == (.ldy, .absoluteX)) = true by decide)
theorem laxIndX (zp : Byte) : Statement (.laxIndX zp) := of_entry rfl (show (tableEntry 0xA3 == (.lax, .indirectX)) = true by decide)
theorem laxZp (zp : Byte) : Statement (.laxZp zp) := of_entry rfl (show (tableEntry 0xA7 == (.lax, .zeroPage)) = true by decide)
theorem laxAbs (w : Word) : Statement (.laxAbs w) := of_entry rfl (show (tableEntry 0xAF == (.lax, .absolute)) = true by decide)
theorem laxIndY (zp : Byte) : Statement (.laxIndY zp) := of_entry rfl (show (tableEntry 0xB3 == (.lax, .indirectY)) = true by decide)
theorem laxZpY (zp : Byte) : Statement (.laxZpY zp) := of_entry rfl (show (tableEntry 0xB7 == (.lax, .zeroPageY)) = true by decide)
theorem laxAbsY (w : Word) : Statement (.laxAbsY w) := of_entry rfl (show (tableEntry 0xBF == (.lax, .absoluteY)) = true by decide)
theorem staIndX (zp : Byte) : Statement (.staIndX zp) := of_entry rfl (show (tableEntry 0x81 == (.sta, .indirectX)) = true by decide)
theorem staZp (zp : Byte) : Statement (.staZp zp) := of_entry rfl (show (tableEntry 0x85 == (.sta, .zeroPage)) = true by decide)
theorem staAbs (w : Word) : Statement (.staAbs w) := of_entry rfl (show (tableEntry 0x8D == (.sta, .absolute)) = true by decide)
theorem staIndY (zp : Byte) : Statement (.staIndY zp) := of_entry rfl (show (tableEntry 0x91 == (.sta, .indirectY)) = true by decide)
theorem staZpX (zp : Byte) : Statement (.staZpX zp) := of_entry rfl (show (tableEntry 0x95 == (.sta, .zeroPageX)) = true by decide)
theorem staAbsY (w : Word) : Statement (.staAbsY w) := of_entry rfl (show (tableEntry 0x99 == (.sta, .absoluteY)) = true by decide)
theorem staAbsX (w : Word) : Statement (.staAbsX w) := of_entry rfl (show (tableEntry 0x9D == (.sta, .absoluteX)) = true by decide)
theorem stxZp (zp : Byte) : Statement (.stxZp zp) := of_entry rfl (show (tableEntry 0x86 == (.stx, .zeroPage)) = true by decide)
theorem stxAbs (w : Word) : Statement (.stxAbs w) := of_entry rfl (show (tableEntry 0x8E == (.stx, .absolute)) = true by decide)
theorem stxZpY (zp : Byte) : Statement (.stxZpY zp) := of_entry rfl (show (tableEntry 0x96 == (.stx, .zeroPageY)) = true by decide)
theorem styZp (zp : Byte) : Statement (.styZp zp) := of_entry rfl (show (tableEntry 0x84 == (.sty, .zeroPage)) = true by decide)
theorem styAbs (w : Word) : Statement (.styAbs w) := of_entry rfl (show (tableEntry 0x8C == (.sty, .absolute)) = true by decide)
theorem styZpX (zp : Byte) : Statement (.styZpX zp) := of_entry rfl (show (tableEntry 0x94 == (.sty, .zeroPageX)) = true by decide)
theorem saxIndX (zp : Byte) : Statement (.saxIndX zp) := of_entry rfl (show (tableEntry 0x83 == (.sax, .indirectX)) = true by decide)
theorem saxZp (zp : Byte) : Statement (.saxZp zp) := of_entry rfl (show (tableEntry 0x87 == (.sax, .zeroPage)) = true by decide)
theorem saxAbs (w : Word) : Statement (.saxAbs w) := of_entry rfl (show (tableEntry 0x8F == (.sax, .absolute)) = true by decide)
theorem saxZpY (zp : Byte) : Statement (.saxZpY zp) := of_entry rfl (show (tableEntry 0x97 == (.sax, .zeroPageY)) = true by decide)
theorem tax : Statement .tax := of_entry rfl (show (tableEntry 0xAA == (.tax, .implied)) = true by decide)
theorem tay : Statement .tay := of_entry rfl (show (tableEntry 0xA8 == (.tay, .implied)) = true by decide)
theorem txa : Statement .txa := of_entry rfl (show (tableEntry 0x8A == (.txa, .implied)) = true by decide)
theorem tya : Statement .tya := of_entry rfl (show (tableEntry 0x98 == (.tya, .implied)) = true by decide)
theorem tsx : Statement .tsx := of_entry rfl (show (tableEntry 0xBA == (.tsx, .implied)) = true by decide)
theorem txs : Statement .txs := of_entry rfl (show (tableEntry 0x9A == (.txs, .implied)) = true by decide)
theorem adcIndX (zp : Byte) : Statement (.adcIndX zp) := of_entry rfl (show (tableEntry 0x61 == (.adc, .indirectX)) = true by decide)
theorem adcZp (zp : Byte) : Statement (.adcZp zp) := of_entry rfl (show (tableEntry 0x65 == (.adc, .zeroPage)) = true by decide)
theorem adcImm (v : Byte) : Statement (.adcImm v) := of_entry rfl (show (tableEntry 0x69 == (.adc, .immediate)) = true by decide)
theorem adcAbs (w : Word) : Statement (.adcAbs w) := of_entry rfl (show (tableEntry 0x6D == (.adc, .absolute)) = true by decide)
theorem adcIndY (zp : Byte) : Statement (.adcIndY zp) := of_entry rfl (show (tableEntry 0x71 == (.adc, .indirectY)) = true by decide)
theorem adcZpX (zp : Byte) : Statement (.adcZpX zp) := of_entry rfl (show (tableEntry 0x75 == (.adc, .zeroPageX)) = true by decide)
theorem adcAbsY (w : Word) : Statement (.adcAbsY w) := of_entry rfl (show (tableEntry 0x79 == (.adc, .absoluteY)) = true by decide)
theorem adcAbsX (w : Word) : Statement (.adcAbsX w) := of_entry rfl (show (tableEntry 0x7D == (.adc, .absoluteX)) = true by decide)
theorem sbcIndX (zp : Byte) : Statement (.sbcIndX zp) := of_entry rfl (show (tableEntry 0xE1 == (.sbc, .indirectX)) = true by decide)
theorem sbcZp (zp : Byte) : Statement (.sbcZp zp) := of_entry rfl (show (tableEntry 0xE5 == (.sbc, .zeroPage)) = true by decide)
theorem sbcImm (v : Byte) : Statement (.sbcImm v) := of_entry rfl (show (tableEntry 0xE9 == (.sbc, .immediate)) = true by decide)
theorem sbcImmEB (v : Byte) : Statement (.sbcImmEB v) := of_entry rfl (show (tableEntry 0xEB == (.sbc, .immediate)) = true by decide)
theorem sbcAbs (w : Word) : Statement (.sbcAbs w) := of_entry rfl (show (tableEntry 0xED == (.sbc, .absolute)) = true by decide)
theorem sbcIndY (zp : Byte) : Statement (.sbcIndY zp) := of_entry rfl (show (tableEntry 0xF1 == (.sbc, .indirectY)) = true by decide)
theorem sbcZpX (zp : Byte) : Statement (.sbcZpX zp) := of_entry rfl (show (tableEntry 0xF5 == (.sbc, .zeroPageX)) = true by decide)
theorem sbcAbsY (w : Word) : Statement (.sbcAbsY w) := of_entry rfl (show (tableEntry 0xF9 == (.sbc, .absoluteY)) = true by decide)
theorem sbcAbsX (w : Word) : Statement (.sbcAbsX w) := of_entry rfl (show (tableEntry 0xFD == (.sbc, .absoluteX)) = true by decide)
theorem andIndX (zp : Byte) : Statement (.andIndX zp) := of_entry rfl (show (tableEntry 0x21 == (.and, .indirectX)) = true by decide)
theorem andZp (zp : Byte) : Statement (.andZp zp) := of_entry rfl (show (tableEntry 0x25 == (.and, .zeroPage)) = true by decide)
theorem andImm (v : Byte) : Statement (.andImm v) := of_entry rfl (show (tableEntry 0x29 == (.and, .immediate)) = true by decide)
theorem andAbs (w : Word) : Statement (.andAbs w) := of_entry rfl (show (tableEntry 0x2D == (.and, .absolute)) = true by decide)
theorem andIndY (zp : Byte) : Statement (.andIndY zp) := of_entry rfl (show (tableEntry 0x31 == (.and, .indirectY)) = true by decide)
theorem andZpX (zp : Byte) : Statement (.andZpX zp) := of_entry rfl (show (tableEntry 0x35 == (.and, .zeroPageX)) = true by decide)
theorem andAbsY (w : Word) : Statement (.andAbsY w) := of_entry rfl (show (tableEntry 0x39 == (.and, .absoluteY)) = true by decide)
theorem andAbsX (w : Word) : Statement (.andAbsX w) := of_entry rfl (show (tableEntry 0x3D == (.and, .absoluteX)) = true by decide)
theorem oraIndX (zp : Byte) : Statement (.oraIndX zp) := of_entry rfl (show (tableEntry 0x01 == (.ora, .indirectX)) = true by decide)
theorem oraZp (zp : Byte) : Statement (.oraZp zp) := of_entry rfl (show (tableEntry 0x05 == (.ora, .zeroPage)) = true by decide)
theorem oraImm (v : Byte) : Statement (.oraImm v) := of_entry rfl (show (tableEntry 0x09 == (.ora, .immediate)) = true by decide)
theorem oraAbs (w : Word) : Statement (.oraAbs w) := of_entry rfl (show (tableEntry 0x0D == (.ora, .absolute)) = true by decide)
theorem oraIndY (zp : Byte) : Statement (.oraIndY zp) := of_entry rfl (show (tableEntry 0x11 == (.ora, .indirectY)) = true by decide)
theorem oraZpX (zp : Byte) : Statement (.oraZpX zp) := of_entry rfl (show (tableEntry 0x15 == (.ora, .zeroPageX)) = true by decide)
theorem oraAbsY (w : Word) : Statement (.oraAbsY w) := of_entry rfl (show (tableEntry 0x19 == (.ora, .absoluteY)) = true by decide)
theorem oraAbsX (w : Word) : Statement (.oraAbsX w) := of_entry rfl (show (tableEntry 0x1D == (.ora, .absoluteX)) = true by decide)
theorem eorIndX (zp : Byte) : Statement (.eorIndX zp) := of_entry rfl (show (tableEntry 0x41 == (.eor, .indirectX)) = true by decide)
theorem eorZp (zp : Byte) : Statement (.eorZp zp) := of_entry rfl (show (tableEntry 0x45 == (.eor, .zeroPage)) = true by decide)
theorem eorImm (v : Byte) : Statement (.eorImm v) := of_entry rfl (show (tableEntry 0x49 == (.eor, .immediate)) = true by decide)
theorem eorAbs (w : Word) : Statement (.eorAbs w) := of_entry rfl (show (tableEntry 0x4D == (.eor, .absolute)) = true by decide)
theorem eorIndY (zp : Byte) : Statement (.eorIndY zp) := of_entry rfl (show (tableEntry 0x51 == (.eor, .indirectY)) = true by decide)
theorem eorZpX (zp : Byte) : Statement (.eorZpX zp) := of_entry rfl (show (tableEntry 0x55 == (.eor, .zeroPageX)) = true by decide)
theorem eorAbsY (w : Word) : Statement (.eorAbsY w) := of_entry rfl (show (tableEntry 0x59 == (.eor, .absoluteY)) = true by decide)
theorem eorAbsX (w : Word) : Statement (.eorAbsX w) := of_entry rfl (show (tableEntry 0x5D == (.eor, .absoluteX)) = true by decide)
theorem bitZp (zp : Byte) : Statement (.bitZp zp) := of_entry rfl (show (tableEntry 0x24 == (.bit, .zeroPage)) = true by decide)
theorem bitAbs (w : Word) : Statement (.bitAbs w) := of_entry rfl (show (tableEntry 0x2C == (.bit, .absolute)) = true by decide)
theorem cmpIndX (zp : Byte) : Statement (.cmpIndX zp) := of_entry rfl (show (tableEntry 0xC1 == (.cmp, .indirectX)) = true by decide)
theorem cmpZp (zp : Byte) : Statement (.cmpZp zp) := of_entry rfl (show (tableEntry 0xC5 == (.cmp, .zeroPage)) = true by decide)
theorem cmpImm (v : Byte) : Statement (.cmpImm v) := of_entry rfl (show (tableEntry 0xC9 == (.cmp, .immediate)) = true by decide)
theorem cmpAbs (w : Word) : Statement (.cmpAbs w) := of_entry rfl (show (tableEntry 0xCD == (.cmp, .absolute)) = true by decide)
theorem cmpIndY (zp : Byte) : Statement (.cmpIndY zp) := of_entry rfl (show (tableEntry 0xD1 == (.cmp, .indirectY)) = true by decide)
theorem cmpZpX (zp : Byte) : Statement (.cmpZpX zp) := of_entry rfl (show (tableEntry 0xD5 == (.cmp, .zeroPageX)) = true by decide)
theorem cmpAbsY (w : Word) : Statement (.cmpAbsY w) := of_entry rfl (show (tableEntry 0xD9 == (.cmp, .absoluteY)) = true by decide)
theorem cmpAbsX (w : Word) : Statement (.cmpAbsX w) := of_entry rfl (show (tableEntry 0xDD == (.cmp, .absoluteX)) = true by decide)
theorem cpxImm (v : Byte) : Statement (.cpxImm v) := of_entry rfl (show (tableEntry 0xE0 == (.cpx, .immediate)) = true by decide)
theorem cpxZp (zp : Byte) : Statement (.cpxZp zp) := of_entry rfl (show (tableEntry 0xE4 == (.cpx, .zeroPage)) = true by decide)
theorem cpxAbs (w : Word) : Statement (.cpxAbs w) := of_entry rfl (show (tableEntry 0xEC == (.cpx, .absolute)) = true by decide)
theorem cpyImm (v : Byte) : Statement (.cpyImm v) := of_entry rfl (show (tableEntry 0xC0 == (.cpy, .immediate)) = true by decide)
theorem cpyZp (zp : Byte) : Statement (.cpyZp zp) := of_entry rfl (show (tableEntry 0xC4 == (.cpy, .zeroPage)) = true by decide)
theorem cpyAbs (w : Word) : Statement (.cpyAbs w) := of_entry rfl (show (tableEntry 0xCC == (.cpy, .absolute)) = true by decide)
theorem incZp (zp : Byte) : Statement (.incZp zp) := of_entry rfl (show (tableEntry 0xE6 == (.inc, .zeroPage)) = true by decide)
theorem incAbs (w : Word) : Statement (.incAbs w) := of_entry rfl (show (tableEntry 0xEE == (.inc, .absolute)) = true by decide)
theorem incZpX (zp : Byte) : Statement (.incZpX zp) := of_entry rfl (show (tableEntry 0xF6 == (.inc, .zeroPageX)) = true by decide)
theorem incAbsX (w : Word) : Statement (.incAbsX w) := of_entry rfl (show (tableEntry 0xFE == (.inc, .absoluteX)) = true by decide)
theorem decZp (zp : Byte) : Statement (.decZp zp) := of_entry rfl (show (tableEntry 0xC6 == (.dec, .zeroPage)) = true by decide)
theorem decAbs (w : Word) : Statement (.decAbs w) := of_entry rfl (show (tableEntry 0xCE == (.dec, .absolute)) = true by decide)
theorem decZpX (zp : Byte) : Statement (.decZpX zp) := of_entry rfl (show (tableEntry 0xD6 == (.dec, .zeroPageX)) = true by decide)
theorem decAbsX (w : Word) : Statement (.decAbsX w) := of_entry rfl (show (tableEntry 0xDE == (.dec, .absoluteX)) = true by decide)
theorem inx : Statement .inx := of_entry rfl (show (tableEntry 0xE8 == (.inx, .implied)) = true by decide)
theorem iny : Statement .iny := of_entry rfl (show (tableEntry 0xC8 == (.iny, .implied)) = true by decide)
theorem dex : Statement .dex := of_entry rfl (show (tableEntry 0xCA == (.dex, .implied)) = true by decide)
theorem dey : Statement .dey := of_entry rfl (show (tableEntry 0x88 == (.dey, .implied)) = true by decide)
theorem aslZp (zp : Byte) : Statement (.aslZp zp) := of_entry rfl (show (tableEntry 0x06 == (.asl, .zeroPage)) = true by decide)
theorem aslAcc : Statement .aslAcc := of_entry rfl (show (tableEntry 0x0A == (.asl, .accumulator)) = true by decide)
theorem aslAbs (w : Word) : Statement (.aslAbs w) := of_entry rfl (show (tableEntry 0x0E == (.asl, .absolute)) = true by decide)
theorem aslZpX (zp : Byte) : Statement (.aslZpX zp) := of_entry rfl (show (tableEntry 0x16 == (.asl, .zeroPageX)) = true by decide)
theorem aslAbsX (w : Word) : Statement (.aslAbsX w) := of_entry rfl (show (tableEntry 0x1E == (.asl, .absoluteX)) = true by decide)
theorem lsrZp (zp : Byte) : Statement (.lsrZp zp) := of_entry rfl (show (tableEntry 0x46 == (.lsr, .zeroPage)) = true by decide)
theorem lsrAcc : Statement .lsrAcc := of_entry rfl (show (tableEntry 0x4A == (.lsr, .accumulator)) = true by decide)
theorem lsrAbs (w : Word) : Statement (.lsrAbs w) := of_entry rfl (show (tableEntry 0x4E == (.lsr, .absolute)) = true by decide)
theorem lsrZpX (zp : Byte) : Statement (.lsrZpX zp) := of_entry rfl (show (tableEntry 0x56 == (.lsr, .zeroPageX)) = true by decide)
theorem lsrAbsX (w : Word) : Statement (.lsrAbsX w) := of_entry rfl (show (tableEntry 0x5E == (.lsr, .absoluteX)) = true by decide)
theorem rolZp (zp : Byte) : Statement (.rolZp zp) := of_entry rfl (show (tableEntry 0x26 == (.rol, .zeroPage)) = true by decide)
theorem rolAcc : Statement .rolAcc := of_entry rfl (show (tableEntry 0x2A == (.rol, .accumulator)) = true by decide)
theorem rolAbs (w : Word) : Statement (.rolAbs w) := of_entry rfl (show (tableEntry 0x2E == (.rol, .absolute)) = true by decide)
theorem rolZpX (zp : Byte) : Statement (.rolZpX zp) := of_entry rfl (show (tableEntry 0x36 == (.rol, .zeroPageX)) = true by decide)
theorem rolAbsX (w : Word) : Statement (.rolAbsX w) := of_entry rfl (show (tableEntry 0x3E == (.rol, .absoluteX)) = true by decide)
theorem rorZp (zp : Byte) : Statement (.rorZp zp) := of_entry rfl (show (tableEntry 0x66 == (.ror, .zeroPage)) = true by decide)
theorem rorAcc : Statement .rorAcc := of_entry rfl (show (tableEntry 0x6A == (.ror, .accumulator)) = true by decide)
theorem rorAbs (w : Word) : Statement (.rorAbs w) := of_entry rfl (show (tableEntry 0x6E == (.ror, .absolute)) = true by decide)
theorem rorZpX (zp : Byte) : Statement (.rorZpX zp) := of_entry rfl (show (tableEntry 0x76 == (.ror, .zeroPageX)) = true by decide)
theorem rorAbsX (w : Word) : Statement (.rorAbsX w) := of_entry rfl (show (tableEntry 0x7E == (.ror, .absoluteX)) = true by decide)
theorem sloIndX (zp : Byte) : Statement (.sloIndX zp) := of_entry rfl (show (tableEntry 0x03 == (.slo, .indirectX)) = true by decide)
theorem sloZp (zp : Byte) : Statement (.sloZp zp) := of_entry rfl (show (tableEntry 0x07 == (.slo, .zeroPage)) = true by decide)
theorem sloAbs (w : Word) : Statement (.sloAbs w) := of_entry rfl (show (tableEntry 0x0F == (.slo, .absolute)) = true by decide)
theorem sloIndY (zp : Byte) : Statement (.sloIndY zp) := of_entry rfl (show (tableEntry 0x13 == (.slo, .indirectY)) = true by decide)
theorem sloZpX (zp : Byte) : Statement (.sloZpX zp) := of_entry rfl (show (tableEntry 0x17 == (.slo, .zeroPageX)) = true by decide)
theorem sloAbsY (w : Word) : Statement (.sloAbsY w) := of_entry rfl (show (tableEntry 0x1B == (.slo, .absoluteY)) = true by decide)
theorem sloAbsX (w : Word) : Statement (.sloAbsX w) := of_entry rfl (show (tableEntry 0x1F == (.slo, .absoluteX)) = true by decide)
theorem rlaIndX (zp : Byte) : Statement (.rlaIndX zp) := of_entry rfl (show (tableEntry 0x23 == (.rla, .indirectX)) = true by decide)
theorem rlaZp (zp : Byte) : Statement (.rlaZp zp) := of_entry rfl (show (tableEntry 0x27 == (.rla, .zeroPage)) = true by decide)
theorem rlaAbs (w : Word) : Statement (.rlaAbs w) := of_entry rfl (show (tableEntry 0x2F == (.rla, .absolute)) = true by decide)
theorem rlaIndY (zp : Byte) : Statement (.rlaIndY zp) := of_entry rfl (show (tableEntry 0x33 == (.rla, .indirectY)) = true by decide)
theorem rlaZpX (zp : Byte) : Statement (.rlaZpX zp) := of_entry rfl (show (tableEntry 0x37 == (.rla, .zeroPageX)) = true by decide)
theorem rlaAbsY (w : Word) : Statement (.rlaAbsY w) := of_entry rfl (show (tableEntry 0x3B == (.rla, .absoluteY)) = true by decide)
theorem rlaAbsX (w : Word) : Statement (.rlaAbsX w) := of_entry rfl (show (tableEntry 0x3F == (.rla, .absoluteX)) = true by decide)
theorem sreIndX (zp : Byte) : Statement (.sreIndX zp) := of_entry rfl (show (tableEntry 0x43 == (.sre, .indirectX)) = true by decide)
theorem sreZp (zp : Byte) : Statement (.sreZp zp) := of_entry rfl (show (tableEntry 0x47 == (.sre, .zeroPage)) = true by decide)
theorem sreAbs (w : Word) : Statement (.sreAbs w) := of_entry rfl (show (tableEntry 0x4F == (.sre, .absolute)) = true by decide)
theorem sreIndY (zp : Byte) : Statement (.sreIndY zp) := of_entry rfl (show (tableEntry 0x53 == (.sre, .indirectY)) = true by decide)
theorem sreZpX (zp : Byte) : Statement (.sreZpX zp) := of_entry rfl (show (tableEntry 0x57 == (.sre, .zeroPageX)) = true by decide)
theorem sreAbsY (w : Word) : Statement (.sreAbsY w) := of_entry rfl (show (tableEntry 0x5B == (.sre, .absoluteY)) = true by decide)
theorem sreAbsX (w : Word) : Statement (.sreAbsX w) := of_entry rfl (show (tableEntry 0x5F == (.sre, .absoluteX)) = true by decide)
theorem rraIndX (zp : Byte) : Statement (.rraIndX zp) := of_entry rfl (show (tableEntry 0x63 == (.rra, .indirectX)) = true by decide)
theorem rraZp (zp : Byte) : Statement (.rraZp zp) := of_entry rfl (show (tableEntry 0x67 == (.rra, .zeroPage)) = true by decide)
theorem rraAbs (w : Word) : Statement (.rraAbs w) := of_entry rfl (show (tableEntry 0x6F == (.rra, .absolute)) = true by decide)
theorem rraIndY (zp : Byte) : Statement (.rraIndY zp) := of_entry rfl (show (tableEntry 0x73 == (.rra, .indirectY)) = true by decide)
theorem rraZpX (zp : Byte) : Statement (.rraZpX zp) := of_entry rfl (show (tableEntry 0x77 == (.rra, .zeroPageX)) = true by decide)
theorem rraAbsY (w : Word) : Statement (.rraAbsY w) := of_entry rfl (show (tableEntry 0x7B == (.rra, .absoluteY)) = true by decide)
theorem rraAbsX (w : Word) : Statement (.rraAbsX w) := of_entry rfl (show (tableEntry 0x7F == (.rra, .absoluteX)) = true by decide)
theorem dcpIndX (zp : Byte) : Statement (.dcpIndX zp) := of_entry rfl (show (tableEntry 0xC3 == (.dcp, .indirectX)) = true by decide)
theorem dcpZp (zp : Byte) : Statement (.dcpZp zp) := of_entry rfl (show (tableEntry 0xC7 == (.dcp, .zeroPage)) = true by decide)
theorem dcpAbs (w : Word) : Statement (.dcpAbs w) := of_entry rfl (show (tableEntry 0xCF == (.dcp, .absolute)) = true by decide)
theorem dcpIndY (zp : Byte) : Statement (.dcpIndY zp) := of_entry rfl (show (tableEntry 0xD3 == (.dcp, .indirectY)) = true by decide)
theorem dcpZpX (zp : Byte) : Statement (.dcpZpX zp) := of_entry rfl (show (tableEntry 0xD7 == (.dcp, .zeroPageX)) = true by decide)
theorem dcpAbsY (w : Word) : Statement (.dcpAbsY w) := of_entry rfl (show (tableEntry 0xDB == (.dcp, .absoluteY)) = true by decide)
theorem dcpAbsX (w : Word) : Statement (.dcpAbsX w) := of_entry rfl (show (tableEntry 0xDF == (.dcp, .absoluteX)) = true by decide)
theorem isbIndX (zp : Byte) : Statement (.isbIndX zp) := of_entry rfl (show (tableEntry 0xE3 == (.isb, .indirectX)) = true by decide)
theorem isbZp (zp : Byte) : Statement (.isbZp zp) := of_entry rfl (show (tableEntry 0xE7 == (.isb, .zeroPage)) = true by decide)
theorem isbAbs (w : Word) : Statement (.isbAbs w) := of_entry rfl (show (tableEntry 0xEF == (.isb, .absolute)) = true by decide)
theorem isbIndY (zp : Byte) : Statement (.isbIndY zp) := of_entry rfl (show (tableEntry 0xF3 == (.isb, .indirectY)) = true by decide)
theorem isbZpX (zp : Byte) : Statement (.isbZpX zp) := of_entry rfl (show (tableEntry 0xF7 == (.isb, .zeroPageX)) = true by decide)
theorem isbAbsY (w : Word) : Statement (.isbAbsY w) := of_entry rfl (show (tableEntry 0xFB == (.isb, .absoluteY)) = true by decide)
theorem isbAbsX (w : Word) : Statement (.isbAbsX w) := of_entry rfl (show (tableEntry 0xFF == (.isb, .absoluteX)) = true by decide)
theorem bcc (off : Byte) : Statement (.bcc off) := of_entry rfl (show (tableEntry 0x90 == (.bcc, .relative)) = true by decide)
theorem bcs (off : Byte) : Statement (.bcs off) := of_entry rfl (show (tableEntry 0xB0 == (.bcs, .relative)) = true by decide)
theorem beq (off : Byte) : Statement (.beq off) := of_entry rfl (show (tableEntry 0xF0 == (.beq, .relative)) = true by decide)
theorem bne (off : Byte) : Statement (.bne off) := of_entry rfl (show (tableEntry 0xD0 == (.bne, .relative)) = true by decide)
theorem bmi (off : Byte) : Statement (.bmi off) := of_entry rfl (show (tableEntry 0x30 == (.bmi, .relative)) = true by decide)
theorem bpl (off : Byte) : Statement (.bpl off) := of_entry rfl (show (tableEntry 0x10 == (.bpl, .relative)) = true by decide)
theorem bvc (off : Byte) : Statement (.bvc off) := of_entry rfl (show (tableEntry 0x50 == (.bvc, .relative)) = true by decide)
theorem bvs (off : Byte) : Statement (.bvs off) := of_entry rfl (show (tableEntry 0x70 == (.bvs, .relative)) = true by decide)
theorem jmpAbs (w : Word) : Statement (.jmpAbs w) := of_entry rfl (show (tableEntry 0x4C == (.jmp, .absolute)) = true by decide)
theorem jmpInd (w : Word) : Statement (.jmpInd w) := of_entry rfl (show (tableEntry 0x6C == (.jmp, .indirect)) = true by decide)
theorem jsr (w : Word) : Statement (.jsr w) := of_entry rfl (show (tableEntry 0x20 == (.jsr, .absolute)) = true by decide)
theorem rts : Statement .rts := of_entry rfl (show (tableEntry 0x60 == (.rts, .implied)) = true by decide)
theorem rti : Statement .rti := of_entry rfl (show (tableEntry 0x40 == (.rti, .implied)) = true by decide)
theorem brk : Statement .brk := of_entry rfl (show (tableEntry 0x00 == (.brk, .implied)) = true by decide)
theorem pha : Statement .pha := of_entry rfl (show (tableEntry 0x48 == (.pha, .implied)) = true by decide)
theorem pla : Statement .pla := of_entry rfl (show (tableEntry 0x68 == (.pla, .implied)) = true by decide)
theorem php : Statement .php := of_entry rfl (show (tableEntry 0x08 == (.php, .implied)) = true by decide)
theorem plp : Statement .plp := of_entry rfl (show (tableEntry 0x28 == (.plp, .implied)) = true by decide)
theorem clc : Statement .clc := of_entry rfl (show (tableEntry 0x18 == (.clc, .implied)) = true by decide)
theorem sec : Statement .sec := of_entry rfl (show (tableEntry 0x38 == (.sec, .implied)) = true by decide)
theorem cli : Statement .cli := of_entry rfl (show (tableEntry 0x58 == (.cli, .implied)) = true by decide)
theorem sei : Statement .sei := of_entry rfl (show (tableEntry 0x78 == (.sei, .implied)) = true by decide)
theorem clv : Statement .clv := of_entry rfl (show (tableEntry 0xB8 == (.clv, .implied)) = true by decide)
theorem cld : Statement .cld := of_entry rfl (show (tableEntry 0xD8 == (.cld, .implied)) = true by decide)
theorem sed : Statement .sed := of_entry rfl (show (tableEntry 0xF8 == (.sed, .implied)) = true by decide)
theorem nopZp04 (zp : Byte) : Statement (.nopZp04 zp) := of_entry rfl (show (tableEntry 0x04 == (.nop, .zeroPage)) = true by decide)
theorem nopAbs0C (w : Word) : Statement (.nopAbs0C w) := of_entry rfl (show (tableEntry 0x0C == (.nop, .absolute)) = true by decide)
theorem nopZpX14 (zp : Byte) : Statement (.nopZpX14 zp) := of_entry rfl (show (tableEntry 0x14 == (.nop, .zeroPageX)) = true by decide)
theorem nop1A : Statement .nop1A := of_entry rfl (show (tableEntry 0x1A == (.nop, .implied)) = true by decide)
theorem nopAbsX1C (w : Word) : Statement (.nopAbsX1C w) := of_entry rfl (show (tableEntry 0x1C == (.nop, .absoluteX)) = true by decide)
theorem nopZpX34 (zp : Byte) : Statement (.nopZpX34 zp) := of_entry rfl (show (tableEntry 0x34 == (.nop, .zeroPageX)) = true by decide)
theorem nop3A : Statement .nop3A := of_entry rfl (show (tableEntry 0x3A == (.nop, .implied)) = true by decide)
theorem nopAbsX3C (w : Word) : Statement (.nopAbsX3C w) := of_entry rfl (show (tableEntry 0x3C == (.nop, .absoluteX)) = true by decide)
theorem nopZp44 (zp : Byte) : Statement (.nopZp44 zp) := of_entry rfl (show (tableEntry 0x44 == (.nop, .zeroPage)) = true by decide)
theorem nopZpX54 (zp : Byte) : Statement (.nopZpX54 zp) := of_entry rfl (show (tableEntry 0x54 == (.nop, .zeroPageX)) = true by decide)
theorem nop5A : Statement .nop5A := of_entry rfl (show (tableEntry 0x5A == (.nop, .implied)) = true by decide)
theorem nopAbsX5C (w : Word) : Statement (.nopAbsX5C w) := of_entry rfl (show (tableEntry 0x5C == (.nop, .absoluteX)) = true by decide)
theorem nopZp64 (zp : Byte) : Statement (.nopZp64 zp) := of_entry rfl (show (tableEntry 0x64 == (.nop, .zeroPage)) = true by decide)
theorem nopZpX74 (zp : Byte) : Statement (.nopZpX74 zp) := of_entry rfl (show (tableEntry 0x74 == (.nop, .zeroPageX)) = true by decide)
theorem nop7A : Statement .nop7A := of_entry rfl (show (tableEntry 0x7A == (.nop, .implied)) = true by decide)
theorem nopAbsX7C (w : Word) : Statement (.nopAbsX7C w) := of_entry rfl (show (tableEntry 0x7C == (.nop, .absoluteX)) = true by decide)
theorem nopImm80 (v : Byte) : Statement (.nopImm80 v) := of_entry rfl (show (tableEntry 0x80 == (.nop, .immediate)) = true by decide)
theorem nopImm82 (v : Byte) : Statement (.nopImm82 v) := of_entry rfl (show (tableEntry 0x82 == (.nop, .immediate)) = true by decide)
theorem nopImm89 (v : Byte) : Statement (.nopImm89 v) := of_entry rfl (show (tableEntry 0x89 == (.nop, .immediate)) = true by decide)
theorem nopImmC2 (v : Byte) : Statement (.nopImmC2 v) := of_entry rfl (show (tableEntry 0xC2 == (.nop, .immediate)) = true by decide)
theorem nopZpXD4 (zp : Byte) : Statement (.nopZpXD4 zp) := of_entry rfl (show (tableEntry 0xD4 == (.nop, .zeroPageX)) = true by decide)
theorem nopDA : Statement .nopDA := of_entry rfl (show (tableEntry 0xDA == (.nop, .implied)) = true by decide)
theorem nopAbsXDC (w : Word) : Statement (.nopAbsXDC w) := of_entry rfl (show (tableEntry 0xDC == (.nop, .absoluteX)) = true by decide)
theorem nopImmE2 (v : Byte) : Statement (.nopImmE2 v) := of_entry rfl (show (tableEntry 0xE2 == (.nop, .immediate)) = true by decide)
theorem nop : Statement .nop := of_entry rfl (show (tableEntry 0xEA == (.nop, .implied)) = true by decide)
theorem nopZpXF4 (zp : Byte) : Statement (.nopZpXF4 zp) := of_entry rfl (show (tableEntry 0xF4 == (.nop, .zeroPageX)) = true by decide)
theorem nopFA : Statement .nopFA := of_entry rfl (show (tableEntry 0xFA == (.nop, .implied)) = true by decide)
theorem nopAbsXFC (w : Word) : Statement (.nopAbsXFC w) := of_entry rfl (show (tableEntry 0xFC == (.nop, .absoluteX)) = true by decide)
theorem undef02 : Statement .undef02 := of_entry rfl (show (tableEntry 0x02 == (.undef, .none)) = true by decide)
theorem undef0B : Statement .undef0B := of_entry rfl (show (tableEntry 0x0B == (.undef, .none)) = true by decide)
theorem undef12 : Statement .undef12 := of_entry rfl (show (tableEntry 0x12 == (.undef, .none)) = true by decide)
theorem undef22 : Statement .undef22 := of_entry rfl (show (tableEntry 0x22 == (.undef, .none)) = true by decide)
theorem undef2B : Statement .undef2B := of_entry rfl (show (tableEntry 0x2B == (.undef, .none)) = true by decide)
theorem undef32 : Statement .undef32 := of_entry rfl (show (tableEntry 0x32 == (.undef, .none)) = true by decide)
theorem undef42 : Statement .undef42 := of_entry rfl (show (tableEntry 0x42 == (.undef, .none)) = true by decide)
theorem undef4B : Statement .undef4B := of_entry rfl (show (tableEntry 0x4B == (.undef, .none)) = true by decide)
theorem undef52 : Statement .undef52 := of_entry rfl (show (tableEntry 0x52 == (.undef, .none)) = true by decide)
theorem undef62 : Statement .undef62 := of_entry rfl (show (tableEntry 0x62 == (.undef, .none)) = true by decide)
theorem undef6B : Statement .undef6B := of_entry rfl (show (tableEntry 0x6B == (.undef, .none)) = true by decide)
theorem undef72 : Statement .undef72 := of_entry rfl (show (tableEntry 0x72 == (.undef, .none)) = true by decide)
theorem undef8B : Statement .undef8B := of_entry rfl (show (tableEntry 0x8B == (.undef, .none)) = true by decide)
theorem undef92 : Statement .undef92 := of_entry rfl (show (tableEntry 0x92 == (.undef, .none)) = true by decide)
theorem undef93 : Statement .undef93 := of_entry rfl (show (tableEntry 0x93 == (.undef, .none)) = true by decide)
theorem undef9B : Statement .undef9B := of_entry rfl (show (tableEntry 0x9B == (.undef, .none)) = true by decide)
theorem undef9C : Statement .undef9C := of_entry rfl (show (tableEntry 0x9C == (.undef, .none)) = true by decide)
theorem undef9E : Statement .undef9E := of_entry rfl (show (tableEntry 0x9E == (.undef, .none)) = true by decide)
theorem undef9F : Statement .undef9F := of_entry rfl (show (tableEntry 0x9F == (.undef, .none)) = true by decide)
theorem undefAB : Statement .undefAB := of_entry rfl (show (tableEntry 0xAB == (.undef, .none)) = true by decide)
theorem undefB2 : Statement .undefB2 := of_entry rfl (show (tableEntry 0xB2 == (.undef, .none)) = true by decide)
theorem undefBB : Statement .undefBB := of_entry rfl (show (tableEntry 0xBB == (.undef, .none)) = true by decide)
theorem undefCB : Statement .undefCB := of_entry rfl (show (tableEntry 0xCB == (.undef, .none)) = true by decide)
theorem undefD2 : Statement .undefD2 := of_entry rfl (show (tableEntry 0xD2 == (.undef, .none)) = true by decide)
theorem undefF2 : Statement .undefF2 := of_entry rfl (show (tableEntry 0xF2 == (.undef, .none)) = true by decide)

end Sys2Proof.Laws.TableRow
end

