-- ==== Sys2Proof/Laws/Step.lean ====
section
/-! SUPPORT. What the parts of an iteration can do: the fetch, the interrupt check, the IRQ input, the DMA copy, and the
forms a step takes. -/

namespace Sys2Proof.Machine

/-! ### Fetching -/

/-- A fetch reads one byte and moves PC. -/
theorem CpuSideKept.fetch8 (s : State) : CpuSideKept s (fetch8 s).2 :=
  (CpuSideKept.busRead s.cpu.pc s).trans (.ofRest rfl rfl rfl rfl rfl)

@[simp] theorem fetch8_cpu (s : State) : (fetch8 s).2.cpu = { s.cpu with pc := s.cpu.pc + 1 } := by
  simp [fetch8, State.setPc]
@[simp] theorem fetch8_fault (s : State) : (fetch8 s).2.fault = s.fault := by simp [fetch8]
@[simp] theorem fetch8_dma (s : State) : (fetch8 s).2.dma = s.dma := by simp [fetch8]
@[simp] theorem fetch8_ram (s : State) : (fetch8 s).2.ram = s.ram := by simp [fetch8]
@[simp] theorem fetch8_cfg (s : State) : (fetch8 s).2.cfg = s.cfg := by simp [fetch8]
@[simp] theorem fetch8_nmiLine (s : State) : (fetch8 s).2.nmiLine = s.nmiLine := by simp [fetch8]
@[simp] theorem fetch8_irqLine (s : State) : (fetch8 s).2.irqLine = s.irqLine := by simp [fetch8]

/-- A fetch from RAM or PRG has no side effect but PC's advance (20_memory.md R209). -/
theorem fetch8_code (s : State) (h : holdsCode s.cfg s.cpu.pc = true) :
    fetch8 s = ((busRead s.cpu.pc s).1, s.setPc (s.cpu.pc + 1)) := by
  have e : (busRead s.cpu.pc s).2 = s := by
    unfold holdsCode at h
    unfold busRead
    split at h <;> simp_all
  simp only [fetch8, e]

/-- The fetch of an instruction keeps what the CPU side keeps, the memories and every register but PC. -/
theorem CpuSideKept.fetchInstr (s : State) : CpuSideKept s (fetchInstr s).2 := by
  unfold Sys2Proof.Machine.fetchInstr fetch16
  dsimp only
  split
  · exact .fetch8 s
  · exact (CpuSideKept.fetch8 s).trans (.fetch8 _)
  · exact ((CpuSideKept.fetch8 s).trans (.fetch8 _)).trans (.fetch8 _)

theorem fetchInstr_cpu (s : State) : ∃ pc, (fetchInstr s).2.cpu = { s.cpu with pc := pc } := by
  unfold fetchInstr fetch16
  dsimp only
  split
  · exact ⟨s.cpu.pc + 1, by simp only [fetch8_cpu]⟩
  · exact ⟨s.cpu.pc + 1 + 1, by simp only [fetch8_cpu]⟩
  · exact ⟨s.cpu.pc + 1 + 1 + 1, by simp only [fetch8_cpu]⟩

@[simp] theorem fetchInstr_fault (s : State) : (fetchInstr s).2.fault = s.fault := by
  unfold fetchInstr fetch16
  dsimp only
  split <;> simp
@[simp] theorem fetchInstr_dma (s : State) : (fetchInstr s).2.dma = s.dma := by
  unfold fetchInstr fetch16
  dsimp only
  split <;> simp
@[simp] theorem fetchInstr_ram (s : State) : (fetchInstr s).2.ram = s.ram := by
  unfold fetchInstr fetch16
  dsimp only
  split <;> simp

@[simp] theorem fetchInstr_irqLine (s : State) : (fetchInstr s).2.irqLine = s.irqLine := by
  unfold fetchInstr fetch16
  dsimp only
  split <;> simp
@[simp] theorem fetchInstr_irqInput (s : State) : (fetchInstr s).2.irqInput = s.irqInput := by
  unfold fetchInstr fetch16
  dsimp only
  split <;> simp [fetch8]

/-- The fetch of an instruction is the decoding of the bytes fetched one after another, and it makes as many fetches as the
instruction has bytes (R602; 20_memory.md R203). -/
theorem fetchInstr_of_decode {s : State} {i : Instr} {rest : List Byte}
    (h : decode [(fetch8 s).1, (fetch8 (fetch8 s).2).1, (fetch8 (fetch8 (fetch8 s).2).2).1] = .ok (i, rest)) :
    fetchInstr s = (i, Nat.repeat (fun u => (fetch8 u).2) (encode i).length s) := by
  have right := formatOf_right (fetch8 s).1
  have len : (encode i).length = i.row.operand.bytes.length + 1 := rfl
  unfold decode at h
  unfold fetchInstr fetch16
  cases hf : formatOf (fetch8 s).1 with
  | noOperand j =>
    rw [hf] at right
    simp only [hf, Except.ok.injEq, Prod.mk.injEq] at h
    obtain ⟨rfl, -⟩ := h
    rw [len, right.2.1]
    simp only [hf]
    rfl
  | byteOperand f =>
    rw [hf] at right
    simp only [hf, Except.ok.injEq, Prod.mk.injEq] at h
    obtain ⟨rfl, -⟩ := h
    rw [len, (right _).2.1]
    simp only [hf]
    rfl
  | wordOperand f =>
    rw [hf] at right
    simp only [hf, Except.ok.injEq, Prod.mk.injEq] at h
    obtain ⟨rfl, -⟩ := h
    rw [len, (right _).2.1]
    simp only [hf]
    rfl

/-! ### The interrupt check -/

/-- An interrupt check does nothing, or takes one interrupt through a vector in PRG and clears its line (R602, R603). -/
theorem interruptCheck_cases (s : State) :
    (s.nmiLine = true ∧ interruptCheck s = dispatch nmiVector { s with nmiLine := false }) ∨
    (s.nmiLine = false ∧ s.irqLine = true ∧ s.cpu.p.i = false ∧
      interruptCheck s = dispatch irqVector { s with irqLine := false }) ∨
    (s.nmiLine = false ∧ (s.irqLine = false ∨ s.cpu.p.i = true) ∧ interruptCheck s = s) := by
  unfold interruptCheck
  cases hn : s.nmiLine
  · by_cases hi : s.irqLine = true ∧ s.cpu.p.i = false
    · exact .inr (.inl ⟨rfl, hi.1, hi.2, by simp [hi]⟩)
    · refine .inr (.inr ⟨rfl, ?_, by simp [hi]⟩)
      cases h1 : s.irqLine <;> cases h2 : s.cpu.p.i <;> simp_all
  · exact .inl ⟨rfl, by simp⟩

/-- An entry through a vector in PRG keeps what the CPU side keeps. -/
theorem CpuSideKept.enterInterrupt (b : Bool) (vector : Word) (s : State) (h : 0x8000 ≤ vector.toNat)
    (h1 : 0x8000 ≤ (vector + 1).toNat) : CpuSideKept s (enterInterrupt b vector s) := by
  rw [enterInterrupt_eq _ _ _ h h1]
  exact (((CpuSideKept.writeRam s (stack_lt s.cpu.sp) _).trans (.writeRam _ (stack_lt (s.cpu.sp - 1)) _)).trans
    (.writeRam _ (stack_lt (s.cpu.sp - 1 - 1)) _)).trans (.ofRest rfl rfl rfl rfl rfl)

/-- A dispatch keeps what the CPU side keeps, the fault, the DMA register and the reserved bit. -/
theorem dispatch_keeps (vector : Word) (s : State) (h : 0x8000 ≤ vector.toNat) (h1 : 0x8000 ≤ (vector + 1).toNat) :
    CpuSideKept s (dispatch vector s) ∧ (dispatch vector s).fault = s.fault ∧ (dispatch vector s).dma = s.dma ∧
      (dispatch vector s).cpu.p.r = s.cpu.p.r := by
  refine ⟨.enterInterrupt false vector s h h1, ?_⟩
  unfold dispatch
  rw [enterInterrupt_eq _ _ _ h h1]
  exact ⟨rfl, rfl, rfl⟩

/-- The interrupt check keeps the same. -/
theorem interruptCheck_keeps (s : State) : CpuSideKept s (interruptCheck s) ∧ (interruptCheck s).fault = s.fault ∧
    (interruptCheck s).dma = s.dma ∧ (interruptCheck s).cpu.p.r = s.cpu.p.r := by
  rcases interruptCheck_cases s with ⟨-, e⟩ | ⟨-, -, -, e⟩ | ⟨-, -, e⟩
  · obtain ⟨k, h⟩ := dispatch_keeps nmiVector { s with nmiLine := false } nmiVector_prg.1 nmiVector_prg.2
    rw [e]
    exact ⟨CpuSideKept.trans (t := { s with nmiLine := false }) (.ofRest rfl rfl rfl rfl rfl) k, h⟩
  · obtain ⟨k, h⟩ := dispatch_keeps irqVector { s with irqLine := false } irqVector_prg.1 irqVector_prg.2
    rw [e]
    exact ⟨CpuSideKept.trans (t := { s with irqLine := false }) (.ofRest rfl rfl rfl rfl rfl) k, h⟩
  · rw [e]
    exact ⟨.refl s, rfl, rfl, rfl⟩

/-! ### The IRQ input -/

/-- The IRQ input changes only its schedule and the IRQ line (R613). -/
theorem takeIrqInput_eq (s : State) : takeIrqInput s =
    { s with irqLine := s.irqLine || s.irqInput.headD false, irqInput := s.irqInput.tail } := by
  unfold takeIrqInput
  split <;> rename_i h <;> simp [h]
  cases s
  simp_all

theorem CpuSideKept.takeIrqInput (s : State) : CpuSideKept s (takeIrqInput s) := by
  rw [takeIrqInput_eq]
  exact .ofRest rfl rfl rfl rfl rfl

/-! ### The DMA unit -/

/-- Where byte `i` of a transfer is read. -/
def dmaSource (s : State) (i : Nat) : Word := joinBytes s.dma.page (BitVec.ofNat 8 i)

/-- One byte of a transfer: OAM gets it, and a read through the CPU bus has its side effects (R641). -/
theorem dmaByte_eq (s : State) (i : Nat) :
    (s.cfg.dmaHighPageSource = .ramMirror → dmaByte s i = { s with ppu := { s.ppu with
      oam := s.ppu.oam.write i (s.ram.read ((dmaSource s i).toNat % 0x800)) } }) ∧
    (s.cfg.dmaHighPageSource = .cpuBus → dmaByte s i = { (busRead (dmaSource s i) s).2 with
      ppu := { (busRead (dmaSource s i) s).2.ppu with
        oam := (busRead (dmaSource s i) s).2.ppu.oam.write i (busRead (dmaSource s i) s).1 } }) := by
  constructor <;> intro h <;> simp only [dmaByte, dmaSource, h]

/-- What a transfer keeps: what the CPU side keeps, and everything of the CPU, the lines, RAM, the OAM cursor and the three
other PPU memories. -/
structure DmaKept (s t : State) : Prop where
  side : CpuSideKept s t
  cpu : t.cpu = s.cpu
  fault : t.fault = s.fault
  nmiLine : t.nmiLine = s.nmiLine
  irqLine : t.irqLine = s.irqLine
  ram : t.ram = s.ram
  page : t.dma.page = s.dma.page
  irqInput : t.irqInput = s.irqInput
  oamAddr : t.ppu.oamAddr = s.ppu.oamAddr
  chr : t.ppu.chr = s.ppu.chr
  vram : t.ppu.vram = s.ppu.vram
  palette : t.ppu.palette = s.ppu.palette

theorem DmaKept.refl (s : State) : DmaKept s s :=
  ⟨.refl s, rfl, rfl, rfl, rfl, rfl, rfl, rfl, rfl, rfl, rfl, rfl⟩

theorem DmaKept.trans {s t u : State} (h : DmaKept s t) (k : DmaKept t u) : DmaKept s u :=
  ⟨h.side.trans k.side, k.cpu.trans h.cpu, k.fault.trans h.fault, k.nmiLine.trans h.nmiLine, k.irqLine.trans h.irqLine,
    k.ram.trans h.ram, k.page.trans h.page, k.irqInput.trans h.irqInput, k.oamAddr.trans h.oamAddr, k.chr.trans h.chr,
    k.vram.trans h.vram, k.palette.trans h.palette⟩

/-- A write of an OAM byte. -/
theorem DmaKept.writeOam (s : State) {i : Nat} (hi : i < 256) (v : Byte) :
    DmaKept s { s with ppu := { s.ppu with oam := s.ppu.oam.write i v } } :=
  ⟨⟨rfl, rfl, rfl, rfl, rfl, rfl, rfl, rfl, fun _ => rfl, id, fun h => h.writeOam hi v⟩,
    rfl, rfl, rfl, rfl, rfl, rfl, rfl, rfl, rfl, rfl, rfl⟩

/-- A bus read, as a part of a transfer. -/
theorem DmaKept.busRead (a : Word) (s : State) : DmaKept s (busRead a s).2 := by
  refine ⟨.busRead a s, by simp, by simp, by simp, by simp, by simp, by simp, by simp, ?_, ?_, ?_, ?_⟩ <;>
    rcases busRead_state a s with ⟨_, _, _, _, e⟩ | e <;> rw [e]

theorem DmaKept.byte (s : State) {i : Nat} (hi : i < 256) : DmaKept s (dmaByte s i) := by
  cases h : s.cfg.dmaHighPageSource
  · rw [(dmaByte_eq s i).1 h]
    exact .writeOam s hi _
  · rw [(dmaByte_eq s i).2 h]
    exact (DmaKept.busRead _ s).trans (.writeOam _ hi _)

theorem DmaKept.bytes (l : List Nat) (hl : ∀ i ∈ l, i < 256) (s : State) : DmaKept s (l.foldl dmaByte s) := by
  induction l generalizing s with
  | nil => exact .refl s
  | cons i l ih =>
    exact (DmaKept.byte s (hl i (List.mem_cons_self ..))).trans (ih (fun j hj => hl j (List.mem_cons_of_mem _ hj)) _)

/-- A whole transfer, then the pending flag is cleared. -/
theorem DmaKept.run (s : State) : DmaKept s (dmaRun s) ∧ (dmaRun s).dma.pending = false := by
  unfold dmaRun
  generalize hu : (List.range 256).foldl dmaByte s = u
  have k : DmaKept s u := by
    rw [← hu]
    exact .bytes _ (fun i hi => List.mem_range.mp hi) s
  exact ⟨k.trans ⟨.ofRest rfl rfl rfl rfl rfl, rfl, rfl, rfl, rfl, rfl, rfl, rfl, rfl, rfl, rfl, rfl⟩, rfl⟩

/-- The DMA iteration's copy and stall. -/
theorem dmaIteration_keeps (s : State) : DmaKept s (dmaIteration s) ∧ (dmaIteration s).dma.pending = false ∧
    (dmaIteration s).cycles = s.cfg.dmaStall.toNat ∧ (dmaIteration s).ppu.oam = (dmaRun s).ppu.oam := by
  obtain ⟨k, p⟩ := DmaKept.run s
  unfold dmaIteration
  generalize dmaRun s = u at k p ⊢
  refine ⟨k.trans ⟨.ofRest rfl rfl rfl rfl rfl, rfl, rfl, rfl, rfl, rfl, rfl, rfl, rfl, rfl, rfl, rfl⟩, p, ?_, rfl⟩
  simp only [k.side.cfg]

/-! ### The forms of a step -/

/-- What an iteration of the CPU keeps; it always answers a next state. -/
theorem cpuStep_next (s : State) : ∃ t, cpuStep s = .next t ∧ CpuSideKept s t := by
  obtain ⟨t, h⟩ := exec_next (fetchInstr (interruptCheck s)).1 (fetchInstr (interruptCheck s)).2
  exact ⟨t, h, ((interruptCheck_keeps s).1.trans (.fetchInstr _)).trans (.exec h)⟩

/-- An instruction leaves the IRQ line and its schedule (R613). -/
theorem exec_irq {i : Instr} {s t : State} (h : exec i s = .next t) : t.irqLine = s.irqLine ∧ t.irqInput = s.irqInput := by
  rw [exec_eq_execRow] at h
  obtain ⟨u, c, n, f, e, rfl, -⟩ := execRow_effect h
  cases e <;> simp

/-- The CPU's part of an iteration takes an asserted IRQ when no NMI is pending and I is 0, and does nothing else to the
line; it leaves the schedule (R605, R613). -/
theorem cpuStep_irq {s t : State} (h : cpuStep s = .next t) :
    t.irqLine = (s.irqLine && (s.nmiLine || s.cpu.p.i)) ∧ t.irqInput = s.irqInput := by
  obtain ⟨e, e'⟩ := exec_irq h
  rw [e, e', fetchInstr_irqLine, fetchInstr_irqInput]
  rcases interruptCheck_cases s with ⟨hn, c⟩ | ⟨hn, -, hi, c⟩ | ⟨hn, hi, c⟩
  · rw [c, dispatch, enterInterrupt_eq _ _ _ nmiVector_prg.1 nmiVector_prg.2]
    simp [hn]
  · rw [c, dispatch, enterInterrupt_eq _ _ _ irqVector_prg.1 irqVector_prg.2]
    simp [hn, hi]
  · rw [c, hn]
    rcases hi with hi | hi <;> simp [hi]

/-- A step from a state without a fault is a DMA iteration or a CPU iteration, then the PPU's catch-up (R660). -/
theorem step_cases (s : State) :
    (∃ f, s.fault = some f ∧ step s = .fault f) ∨
    (s.fault = none ∧ s.dma.pending = true ∧ step s = .next (catchUp (dmaIteration (takeIrqInput s)))) ∨
    (s.fault = none ∧ s.dma.pending = false ∧ ∃ t, cpuStep (takeIrqInput s) = .next t ∧
      CpuSideKept (takeIrqInput s) t ∧ step s = .next (catchUp t)) := by
  have hd : (takeIrqInput s).dma = s.dma := by rw [takeIrqInput_eq]
  unfold step
  cases hf : s.fault with
  | some f => exact .inl ⟨f, rfl, rfl⟩
  | none =>
    simp only [hd]
    cases hp : s.dma.pending
    · obtain ⟨t, ht, k⟩ := cpuStep_next (takeIrqInput s)
      exact .inr (.inr ⟨trivial, rfl, t, ht, k, by simp only [ht]; rfl⟩)
    · exact .inr (.inl ⟨trivial, rfl, rfl⟩)

end Sys2Proof.Machine
end

