-- ==== Sys2Proof/Laws/Reset.lean ====
section
/-! SUPPORT. The reset sequence in closed form, what an image of bytes reads as, and the tiles of zeroed memories. -/

namespace Sys2Proof

/-- An image read from a list of bytes holds them. -/
theorem Memory.read_ofBytesFrom (bs : List Byte) (k a : Nat) :
    (Memory.ofBytesFrom k bs).read a = if k ≤ a then bs.getD (a - k) 0 else 0 := by
  induction bs generalizing k with
  | nil => simp [Memory.ofBytesFrom]
  | cons b bs ih =>
    have tail : (Memory.ofBytesFrom (k + 1) bs).read a = if k + 1 ≤ a then bs.getD (a - (k + 1)) 0 else 0 := ih (k + 1)
    unfold Memory.ofBytesFrom
    by_cases h : k = a
    · subst h
      split
      · rename_i hb
        rw [tail]
        simp [hb]
      · simp [Memory.read_cons]
    · have e : (if k ≤ a then (b :: bs).getD (a - k) 0 else 0) =
          if k + 1 ≤ a then bs.getD (a - (k + 1)) 0 else 0 := by
        rcases Nat.lt_or_ge a k with h' | h'
        · rw [if_neg (by omega), if_neg (by omega)]
        · rw [if_pos h', if_pos (by omega), show a - k = (a - (k + 1)) + 1 by omega]
          rfl
      rw [e]
      split
      · exact tail
      · rw [Memory.read_cons, if_neg h, tail]

end Sys2Proof

namespace Sys2Proof.Machine

/-- The PPU that the reset sequence starts its frame with (R700 steps 3 and 4). -/
def resetPpu (chr : Memory) : Ppu where
  ctrl := 0
  mask := 0
  vblank := false
  sprite0Hit := false
  oamAddr := 0
  scrollX := 0
  scrollY := 0
  vramAddr := 0
  w := false
  readBuffer := 0
  dot := 0
  scanline := 0
  chr := chr
  vram := []
  palette := []
  oam := []
  bgList := []
  spriteList := []

/-- The reset sequence in closed form: only PC and band 0 of the background list depend on the cartridge (R700). -/
theorem resetSequence_eq (cfg : Config) (chr : Memory) : resetSequence cfg chr = { State.reset with
    cfg := cfg
    cpu := { State.reset.cpu with pc := vectorWord cfg resetVector }
    ppu := { resetPpu chr with bgList := (List.range 33).map (bandTile cfg (resetPpu chr) 0) } } := by
  have sp : (List.range 64).filterMap (spriteAt cfg (resetPpu chr)) = [] := by
    apply List.filterMap_eq_nil_iff.mpr
    intro a _
    simp [spriteAt, resetPpu]
  unfold resetPpu at sp ⊢
  unfold resetSequence
  rw [scanlineStart_eq, readWord_prg _ _ resetVector_prg.1 resetVector_prg.2]
  simp only [State.setPc, frameStart, sprite0Test_eq, vectorWord, sp, State.reset]
  simp

/-- With zeroed CHR and VRAM, every PPU-bus read below the palette answers 0. -/
theorem ppuRead_blank (cfg : Config) (e : Nat) : ppuRead cfg (resetPpu []) e = 0#8 := by
  simp only [ppuRead, paletteRead, resetPpu, Memory.read_nil]
  repeat' split
  all_goals rfl

/-- A tile of zeroed memories. -/
theorem bandTile_blank (cfg : Config) (k x : Nat) : bandTile cfg (resetPpu []) k x = BgTile.blank := by
  have z : ∀ n, BitVec.extractLsb' n 2 (0#8) = 0#2 := fun n => by simp
  simp only [bandTile, patternAt, ppuRead_blank, z]
  rfl

end Sys2Proof.Machine
end

