-- ==== Sys2Proof/Machine/Text.lean ====
section
/-! DEFINITION. The assembler text of an instruction (30_encoding.md R317), a notation and no part of a step. -/

namespace Sys2Proof

/-- The mnemonic as the opcode table writes it. -/
def Mnemonic.name : Mnemonic → String
  | .lda => "LDA"
  | .ldx => "LDX"
  | .ldy => "LDY"
  | .lax => "LAX"
  | .sta => "STA"
  | .stx => "STX"
  | .sty => "STY"
  | .sax => "SAX"
  | .tax => "TAX"
  | .tay => "TAY"
  | .txa => "TXA"
  | .tya => "TYA"
  | .tsx => "TSX"
  | .txs => "TXS"
  | .adc => "ADC"
  | .sbc => "SBC"
  | .and => "AND"
  | .ora => "ORA"
  | .eor => "EOR"
  | .bit => "BIT"
  | .cmp => "CMP"
  | .cpx => "CPX"
  | .cpy => "CPY"
  | .inc => "INC"
  | .dec => "DEC"
  | .inx => "INX"
  | .iny => "INY"
  | .dex => "DEX"
  | .dey => "DEY"
  | .asl => "ASL"
  | .lsr => "LSR"
  | .rol => "ROL"
  | .ror => "ROR"
  | .slo => "SLO"
  | .rla => "RLA"
  | .sre => "SRE"
  | .rra => "RRA"
  | .dcp => "DCP"
  | .isb => "ISB"
  | .bcc => "BCC"
  | .bcs => "BCS"
  | .beq => "BEQ"
  | .bne => "BNE"
  | .bmi => "BMI"
  | .bpl => "BPL"
  | .bvc => "BVC"
  | .bvs => "BVS"
  | .jmp => "JMP"
  | .jsr => "JSR"
  | .rts => "RTS"
  | .rti => "RTI"
  | .brk => "BRK"
  | .pha => "PHA"
  | .pla => "PLA"
  | .php => "PHP"
  | .plp => "PLP"
  | .clc => "CLC"
  | .sec => "SEC"
  | .cli => "CLI"
  | .sei => "SEI"
  | .clv => "CLV"
  | .cld => "CLD"
  | .sed => "SED"
  | .nop => "NOP"
  | .undef => "UNDEF"

/-- A hexadecimal digit. -/
def hexDigit (n : Nat) : String := ["0", "1", "2", "3", "4", "5", "6", "7", "8", "9", "A", "B", "C", "D", "E", "F"].getD n ""

/-- Two hexadecimal digits. -/
def hexByte (b : Byte) : String := hexDigit (b.toNat / 16) ++ hexDigit (b.toNat % 16)

/-- Four hexadecimal digits. -/
def hexWord (w : Word) : String := hexByte (hiByte w) ++ hexByte (loByte w)

/-- The operand of an instruction whose next instruction stands at `next`; a branch shows its target (R317). -/
def Operand.text (next : Word) : Operand → String
  | .none | .implied => ""
  | .accumulator => " A"
  | .imm v => " #$" ++ hexByte v
  | .zp a => " $" ++ hexByte a
  | .zpX a => " $" ++ hexByte a ++ ",X"
  | .zpY a => " $" ++ hexByte a ++ ",Y"
  | .rel off => " $" ++ hexWord (next + sext16 off)
  | .indX a => " ($" ++ hexByte a ++ ",X)"
  | .indY a => " ($" ++ hexByte a ++ "),Y"
  | .abs w => " $" ++ hexWord w
  | .absX w => " $" ++ hexWord w ++ ",X"
  | .absY w => " $" ++ hexWord w ++ ",Y"
  | .ind w => " ($" ++ hexWord w ++ ")"

/-- The line of an instruction that stands at `at_`. -/
def Instr.text (at_ : Word) (i : Instr) : String :=
  i.row.mnemonic.name ++ i.row.operand.text (at_ + BitVec.ofNat 16 i.row.operand.length)

end Sys2Proof
end

