-- ==== Sys2Proof/Tests/Slice0.lean ====
section
/-! SUPPORT. The model's own tests: ill-formed terms that the checks refuse; words written out from the encoding tables; single
steps whose expected values are the worked vectors of spec/95_test_vectors.md; and for every statement with hypotheses a
witness that meets them. -/

namespace Sys2Proof.Tests

open Sys2Proof.Machine

/-! ### Well-formedness refuses each ill-formed term -/

/-- An opcode byte with another row's mnemonic. -/
theorem test_row_wrongMnemonic : Row.wellFormed ⟨0xA9, .ldx, .imm 0x80⟩ = false := by decide
/-- An opcode byte with another row's addressing mode. -/
theorem test_row_wrongMode : Row.wellFormed ⟨0xA9, .lda, .zp 0x80⟩ = false := by decide
/-- An UNDEF byte that claims a mnemonic. -/
theorem test_row_undefByte : Row.wellFormed ⟨0x02, .nop, .implied⟩ = false := by decide
/-- A PRG image of 8 KiB. -/
theorem test_cartridge_prgSize :
    Cartridge.wellFormed ⟨List.replicate 8192 0, [], .horizontal⟩ = false := by
  simp only [Cartridge.wellFormed, List.length_replicate]
  decide
/-- A CHR image shorter than 8 KiB. -/
theorem test_cartridge_chrSize :
    Cartridge.wellFormed ⟨List.replicate 16384 0, [1], .horizontal⟩ = false := by
  simp only [Cartridge.wellFormed, List.length_replicate]
  decide
/-- A PRG image with a listed zero byte is not canonical. -/
theorem test_config_prgNotCanonical : Config.wellFormed { Config.default with prg := [(0, 0)] } = false := by decide
/-- A PRG byte beyond a 16 KiB image. -/
theorem test_config_prgTooLong :
    Config.wellFormed { Config.default with prgSize := .kib16, prg := [(0x4000, 1)] } = false := by decide
/-- A BASE_CYCLES table of the wrong length. -/
theorem test_config_tableLength : Config.wellFormed { Config.default with baseCycles := [7] } = false := by decide
/-- An admitted opcode of fewer than two base cycles. -/
theorem test_config_oneCycle :
    Config.wellFormed { Config.default with baseCycles := 1 :: nmosBaseCycles.drop 1 } = false := by decide +kernel
/-- The default configuration is accepted. -/
theorem test_config_default : Config.wellFormed Config.default = true := by decide +kernel

/-! ### Words written out from the encoding tables of files 40 to 44 and R314 (at least one in every family) -/

/-- 40 R400: LDA #, $A9. -/
theorem test_decode_ldaImm : decode [0b10101001, 0b10000000] = .ok (.ldaImm 0x80, []) := rfl

/-- 40 R401: LDX zp,Y, $B6. -/
theorem test_decode_ldxZpY : decode [0b10110110, 0b11111111] = .ok (.ldxZpY 0xFF, []) := rfl

/-- 40 R403: STA w,X, $9D, low byte first. -/
theorem test_decode_staAbsX : decode [0b10011101, 0b00000000, 0b00000011] = .ok (.staAbsX 0x0300, []) := rfl

/-- 40 R413: SAX (zp,X), $83. -/
theorem test_decode_saxIndX : decode [0b10000011, 0b00010000] = .ok (.saxIndX 0x10, []) := rfl

/-- 40 R410: TSX, $BA. -/
theorem test_decode_tsx : decode [0b10111010] = .ok (.tsx, []) := rfl

/-- 41 R430: ADC (zp),Y, $71. -/
theorem test_decode_adcIndY : decode [0b01110001, 0b01000000] = .ok (.adcIndY 0x40, []) := rfl

/-- 41 R431: SBC #, $EB. -/
theorem test_decode_sbcImmEB : decode [0b11101011, 0b00000001] = .ok (.sbcImmEB 0x01, []) := rfl

/-- 41 R438: BIT w, $2C. -/
theorem test_decode_bitAbs : decode [0b00101100, 0b00000010, 0b00100000] = .ok (.bitAbs 0x2002, []) := rfl

/-- 42 R462: ROL A, $2A. -/
theorem test_decode_rolAcc : decode [0b00101010] = .ok (.rolAcc, []) := rfl

/-- 42 R469: ISB w,Y, $FB. -/
theorem test_decode_isbAbsY : decode [0b11111011, 0b11111111, 0b00000010] = .ok (.isbAbsY 0x02FF, []) := rfl

/-- 43 R493: BEQ off, $F0. -/
theorem test_decode_beq : decode [0b11110000, 0b11111100] = .ok (.beq 0xFC, []) := rfl

/-- 43 R499: JMP (w), $6C. -/
theorem test_decode_jmpInd : decode [0b01101100, 0b11111111, 0b00000010] = .ok (.jmpInd 0x02FF, []) := rfl

/-- 43 R500: JSR w, $20. -/
theorem test_decode_jsr : decode [0b00100000, 0b00000000, 0b10010000] = .ok (.jsr 0x9000, []) := rfl

/-- 44 R523: PLP, $28. -/
theorem test_decode_plp : decode [0b00101000] = .ok (.plp, []) := rfl

/-- 44 R531: NOP zp,X, $14. -/
theorem test_decode_nopZpX14 : decode [0b00010100, 0b00010000] = .ok (.nopZpX14 0x10, []) := rfl

/-- 44 R532: UNDEF, $9C. -/
theorem test_decode_undef9C : decode [0b10011100] = .ok (.undef9C, []) := rfl

/-- No byte: no instruction. -/
theorem test_decode_empty : decode [] = .error .noOpcode := rfl
/-- A word operand with one byte only. -/
theorem test_decode_short : decode [0x8D, 0x00] = .error (.missingOperand 0x8D) := rfl
/-- The host's word: $AD at bits 7:0, then $02, then $20. -/
theorem test_decode_hostWord : decodeTableWord 24 0x2002AD = some (.ldaAbs 0x2002) := rfl

/-- R317: an indirect jump, and a branch shown by its target (S3). -/
theorem test_text_jmp : (Instr.jmpInd 0x02FF).text 0x8000 = "JMP ($02FF)" := by decide
theorem test_text_branch : (Instr.beq 0x04).text 0x80FE = "BEQ $8104" := by decide

/-! ### Single steps -/

/-- A machine with these bytes at $8000 and PC there; the NMI vector holds $9000, the reset vector $8000, the IRQ vector $9100. -/
def boot (bytes : List Byte) : State :=
  { State.reset with
    cfg := { State.reset.cfg with prg := Memory.ofBytes bytes ++ [(0x7FFB, 0x90), (0x7FFD, 0x80), (0x7FFF, 0x91)] }
    cpu := { State.reset.cpu with pc := 0x8000 } }

/-- That machine with these registers, status byte and RAM bytes. -/
def start (bytes : List Byte) (a x y sp p : Byte) (ram : Memory) : State :=
  { boot bytes with
    cpu := { a := a, x := x, y := y, sp := sp, pc := 0x8000, p := Status.unpack p }
    ram := ram }

/-- The strict page-cross policy. -/
def strict (s : State) : State := { s with cfg := { s.cfg with pageCrossPolicy := .strict } }

/-- A, X, Y, SP, P, PC and the cycle count after one step, then the RAM bytes asked for. -/
def after (s : State) (addrs : List Nat) : List Nat :=
  match step s with
  | .next t => [t.cpu.a.toNat, t.cpu.x.toNat, t.cpu.y.toNat, t.cpu.sp.toNat, t.cpu.p.pack.toNat, t.cpu.pc.toNat, t.cycles] ++
      addrs.map fun a => (t.ram.read a).toNat
  | _ => []

/-- 95_test_vectors.md V1: Immediate. -/
theorem test_V1_ldaImm : after (start [0xA9, 0x5A] 0x00 0x00 0x00 0xFD 0x34 []) [] =
    [0x5A, 0x00, 0x00, 0xFD, 0x34, 0x8002, 2] := by decide

/-- 95_test_vectors.md V2: Zero Page. -/
theorem test_V2_ldaZp : after (start [0xA5, 0x80] 0x00 0x00 0x00 0xFD 0x34 [(0x0080, 0x11)]) [] =
    [0x11, 0x00, 0x00, 0xFD, 0x34, 0x8002, 3] := by decide

/-- 95_test_vectors.md V3: Zero Page,X wraps in page 0. -/
theorem test_V3_ldaZpX : after (start [0xB5, 0x80] 0x00 0xFF 0x00 0xFD 0x34 [(0x007F, 0x22)]) [] =
    [0x22, 0xFF, 0x00, 0xFD, 0x34, 0x8002, 4] := by decide

/-- 95_test_vectors.md V4: Zero Page,Y wraps in page 0. -/
theorem test_V4_ldxZpY : after (start [0xB6, 0xFF] 0x00 0x00 0x02 0xFD 0x34 [(0x0001, 0x33)]) [] =
    [0x00, 0x33, 0x02, 0xFD, 0x34, 0x8002, 4] := by decide

/-- 95_test_vectors.md V5: Absolute. -/
theorem test_V5_ldaAbs : after (start [0xAD, 0x00, 0x03] 0x00 0x00 0x00 0xFD 0x34 [(0x0300, 0x44)]) [] =
    [0x44, 0x00, 0x00, 0xFD, 0x34, 0x8003, 4] := by decide

/-- 95_test_vectors.md V7: Absolute,X, page cross (+1). -/
theorem test_V7_ldaAbsX : after (start [0xBD, 0xF0, 0x03] 0x00 0x20 0x00 0xFD 0x34 [(0x0410, 0x66)]) [] =
    [0x66, 0x20, 0x00, 0xFD, 0x34, 0x8003, 5] := by decide

/-- 95_test_vectors.md V8: Absolute,X wraps $FFFF → $0000 (cross). -/
theorem test_V8_ldaAbsX : after (start [0xBD, 0xFF, 0xFF] 0x00 0x01 0x00 0xFD 0x34 [(0x0000, 0x77)]) [] =
    [0x77, 0x01, 0x00, 0xFD, 0x34, 0x8003, 5] := by decide

/-- 95_test_vectors.md V9: Absolute,Y, page cross. -/
theorem test_V9_ldaAbsY : after (start [0xB9, 0xFF, 0x02] 0x00 0x00 0x01 0xFD 0x34 [(0x0300, 0x88)]) [] =
    [0x88, 0x00, 0x01, 0xFD, 0xB4, 0x8003, 5] := by decide

/-- 95_test_vectors.md V11: (Indirect,X) pointer wraps $FF → $00. -/
theorem test_V11_ldaIndX : after (start [0xA1, 0xFE] 0x00 0x01 0x00 0xFD 0x34 [(0x0000, 0x04), (0x0400, 0xAA)]) [] =
    [0xAA, 0x01, 0x00, 0xFD, 0xB4, 0x8002, 6] := by decide

/-- 95_test_vectors.md V13: (Indirect),Y, page cross (+1). -/
theorem test_V13_ldaIndY : after (start [0xB1, 0x40] 0x00 0x00 0x10 0xFD 0x34 [(0x0040, 0xF8), (0x0041, 0x03), (0x0408, 0xCC)]) [] =
    [0xCC, 0x00, 0x10, 0xFD, 0xB4, 0x8002, 6] := by decide

/-- 95_test_vectors.md V14: (Indirect),Y pointer high byte from $00. -/
theorem test_V14_ldaIndY : after (start [0xB1, 0xFF] 0x00 0x00 0x00 0xFD 0x34 [(0x0000, 0x05), (0x00FF, 0x10), (0x0510, 0xDD)]) [] =
    [0xDD, 0x00, 0x00, 0xFD, 0xB4, 0x8002, 5] := by decide

/-- 95_test_vectors.md V15: Indirect, page-wrap bug. -/
theorem test_V15_jmpInd : after (start [0x6C, 0xFF, 0x02] 0x00 0x00 0x00 0xFD 0x34 [(0x0200, 0x12), (0x02FF, 0x34), (0x0300, 0x56)]) [] =
    [0x00, 0x00, 0x00, 0xFD, 0x34, 0x1234, 5] := by decide

/-- 95_test_vectors.md V16: Indirect, no wrap. -/
theorem test_V16_jmpInd : after (start [0x6C, 0x10, 0x02] 0x00 0x00 0x00 0xFD 0x34 [(0x0210, 0x78), (0x0211, 0x06)]) [] =
    [0x00, 0x00, 0x00, 0xFD, 0x34, 0x0678, 5] := by decide

/-- 95_test_vectors.md V17: LDA #$00 sets Z. -/
theorem test_V17_ldaImm : after (start [0xA9, 0x00] 0x12 0x00 0x00 0xFD 0x34 []) [] =
    [0x00, 0x00, 0x00, 0xFD, 0x36, 0x8002, 2] := by decide

/-- 95_test_vectors.md V19: LDX #$00 from X=$01. -/
theorem test_V19_ldxImm : after (start [0xA2, 0x00] 0x00 0x01 0x00 0xFD 0x34 []) [] =
    [0x00, 0x00, 0x00, 0xFD, 0x36, 0x8002, 2] := by decide

/-- 95_test_vectors.md V20: LDY abs,X page cross. -/
theorem test_V20_ldyAbsX : after (start [0xBC, 0xFF, 0x01] 0x00 0x01 0x00 0xFD 0x34 [(0x0200, 0xFE)]) [] =
    [0x00, 0x01, 0xFE, 0xFD, 0xB4, 0x8003, 5] := by decide

/-- 95_test_vectors.md V21: STA zp (no flag change). -/
theorem test_V21_staZp : after (start [0x85, 0x10] 0x00 0x00 0x00 0xFD 0xB5 []) [0x0010] =
    [0x00, 0x00, 0x00, 0xFD, 0xB5, 0x8002, 3, 0x00] := by decide

/-- 95_test_vectors.md V22: STA abs,X cross, Coarse. -/
theorem test_V22_staAbsX : after (start [0x9D, 0xF0, 0x02] 0x5A 0x20 0x00 0xFD 0x34 []) [0x0310] =
    [0x5A, 0x20, 0x00, 0xFD, 0x34, 0x8003, 6, 0x5A] := by decide

/-- 95_test_vectors.md V23: STA abs,X cross, Strict. -/
theorem test_V23_staAbsX : after (strict (start [0x9D, 0xF0, 0x02] 0x5A 0x20 0x00 0xFD 0x34 [])) [0x0310] =
    [0x5A, 0x20, 0x00, 0xFD, 0x34, 0x8003, 5, 0x5A] := by decide

/-- 95_test_vectors.md V25: STX zp,Y wraps. -/
theorem test_V25_stxZpY : after (start [0x96, 0xF0] 0x00 0x3C 0x20 0xFD 0x34 []) [0x0010] =
    [0x00, 0x3C, 0x20, 0xFD, 0x34, 0x8002, 4, 0x3C] := by decide

/-- 95_test_vectors.md V26: STY abs. -/
theorem test_V26_styAbs : after (start [0x8C, 0x34, 0x02] 0x00 0x00 0x99 0xFD 0x34 []) [0x0234] =
    [0x00, 0x00, 0x99, 0xFD, 0x34, 0x8003, 4, 0x99] := by decide

/-- 95_test_vectors.md V27: TAX. -/
theorem test_V27_tax : after (start [0xAA] 0x80 0x00 0x00 0xFD 0x34 []) [] =
    [0x80, 0x80, 0x00, 0xFD, 0xB4, 0x8001, 2] := by decide

/-- 95_test_vectors.md V28: TAY of 0. -/
theorem test_V28_tay : after (start [0xA8] 0x00 0x00 0x05 0xFD 0x34 []) [] =
    [0x00, 0x00, 0x00, 0xFD, 0x36, 0x8001, 2] := by decide

/-- 95_test_vectors.md V29: TXA. -/
theorem test_V29_txa : after (start [0x8A] 0x00 0x7F 0x00 0xFD 0x34 []) [] =
    [0x7F, 0x7F, 0x00, 0xFD, 0x34, 0x8001, 2] := by decide

/-- 95_test_vectors.md V30: TYA. -/
theorem test_V30_tya : after (start [0x98] 0x00 0x00 0xFF 0xFD 0x34 []) [] =
    [0xFF, 0x00, 0xFF, 0xFD, 0xB4, 0x8001, 2] := by decide

/-- 95_test_vectors.md V31: TSX after reset. -/
theorem test_V31_tsx : after (start [0xBA] 0x00 0x00 0x00 0xFD 0x34 []) [] =
    [0x00, 0xFD, 0x00, 0xFD, 0xB4, 0x8001, 2] := by decide

/-- 95_test_vectors.md V32: TXS writes no flag. -/
theorem test_V32_txs : after (start [0x9A] 0x00 0x00 0x00 0xFD 0x34 []) [] =
    [0x00, 0x00, 0x00, 0x00, 0x34, 0x8001, 2] := by decide

/-- 95_test_vectors.md V33: LAX zp. -/
theorem test_V33_laxZp : after (start [0xA7, 0x10] 0x00 0x00 0x00 0xFD 0x34 [(0x0010, 0x8F)]) [] =
    [0x8F, 0x8F, 0x00, 0xFD, 0xB4, 0x8002, 3] := by decide

/-- 95_test_vectors.md V34: LAX abs,Y cross. -/
theorem test_V34_laxAbsY : after (start [0xBF, 0xFF, 0x02] 0x11 0x22 0x01 0xFD 0x34 []) [] =
    [0x00, 0x00, 0x01, 0xFD, 0x36, 0x8003, 5] := by decide

/-- 95_test_vectors.md V35: SAX zp. -/
theorem test_V35_saxZp : after (start [0x87, 0x30] 0xF0 0x3C 0x00 0xFD 0x34 []) [0x0030] =
    [0xF0, 0x3C, 0x00, 0xFD, 0x34, 0x8002, 3, 0x30] := by decide

/-- 95_test_vectors.md V36: SAX (zp,X). -/
theorem test_V36_saxIndX : after (start [0x83, 0x10] 0xFF 0x02 0x00 0xFD 0x34 [(0x0013, 0x03)]) [0x0300] =
    [0xFF, 0x02, 0x00, 0xFD, 0x34, 0x8002, 6, 0x02] := by decide

/-- 95_test_vectors.md V43: ADC # $D0 $90 C=0. -/
theorem test_V43_adcImm : after (start [0x69, 0x90] 0xD0 0x00 0x00 0xFD 0x34 []) [] =
    [0x60, 0x00, 0x00, 0xFD, 0x75, 0x8002, 2] := by decide

/-- 95_test_vectors.md V47: ADC # $7F $00 C=1. -/
theorem test_V47_adcImm : after (start [0x69, 0x00] 0x7F 0x00 0x00 0xFD 0x35 []) [] =
    [0x80, 0x00, 0x00, 0xFD, 0xF4, 0x8002, 2] := by decide

/-- 95_test_vectors.md V50: SBC # $50 $B0 C=1. -/
theorem test_V50_sbcImm : after (start [0xE9, 0xB0] 0x50 0x00 0x00 0xFD 0x35 []) [] =
    [0xA0, 0x00, 0x00, 0xFD, 0xF4, 0x8002, 2] := by decide

/-- 95_test_vectors.md V58: SBC # $00 $00 C=0. -/
theorem test_V58_sbcImm : after (start [0xE9, 0x00] 0x00 0x00 0x00 0xFD 0x34 []) [] =
    [0xFF, 0x00, 0x00, 0xFD, 0xB4, 0x8002, 2] := by decide

/-- 95_test_vectors.md V60: SBC # ($EB) $10 $01 C=1. -/
theorem test_V60_sbcImmEB : after (start [0xEB, 0x01] 0x10 0x00 0x00 0xFD 0x35 []) [] =
    [0x0F, 0x00, 0x00, 0xFD, 0x35, 0x8002, 2] := by decide

/-- 95_test_vectors.md V62: AND #. -/
theorem test_V62_andImm : after (start [0x29, 0x0F] 0xF3 0x00 0x00 0xFD 0x34 []) [] =
    [0x03, 0x00, 0x00, 0xFD, 0x34, 0x8002, 2] := by decide

/-- 95_test_vectors.md V64: ORA zp. -/
theorem test_V64_oraZp : after (start [0x05, 0x10] 0x01 0x00 0x00 0xFD 0x34 [(0x0010, 0x80)]) [] =
    [0x81, 0x00, 0x00, 0xFD, 0xB4, 0x8002, 3] := by decide

/-- 95_test_vectors.md V65: EOR #. -/
theorem test_V65_eorImm : after (start [0x49, 0xFF] 0x0F 0x00 0x00 0xFD 0x34 []) [] =
    [0xF0, 0x00, 0x00, 0xFD, 0xB4, 0x8002, 2] := by decide

/-- 95_test_vectors.md V66: CMP equal. -/
theorem test_V66_cmpImm : after (start [0xC9, 0x40] 0x40 0x00 0x00 0xFD 0x34 []) [] =
    [0x40, 0x00, 0x00, 0xFD, 0x37, 0x8002, 2] := by decide

/-- 95_test_vectors.md V68: CMP less. -/
theorem test_V68_cmpImm : after (start [0xC9, 0x41] 0x40 0x00 0x00 0xFD 0x34 []) [] =
    [0x40, 0x00, 0x00, 0xFD, 0xB4, 0x8002, 2] := by decide

/-- 95_test_vectors.md V72: CPY zp. -/
theorem test_V72_cpyZp : after (start [0xC4, 0x10] 0x00 0x00 0x80 0xFD 0x34 [(0x0010, 0x7F)]) [] =
    [0x00, 0x00, 0x80, 0xFD, 0x35, 0x8002, 3] := by decide

/-- 95_test_vectors.md V71: CPX #. -/
theorem test_V71_cpxImm : after (start [0xE0, 0xFF] 0x00 0x00 0x00 0xFD 0x34 []) [] =
    [0x00, 0x00, 0x00, 0xFD, 0x34, 0x8002, 2] := by decide

/-- 95_test_vectors.md V73: BIT zp, N V from memory. -/
theorem test_V73_bitZp : after (start [0x24, 0x10] 0x01 0x00 0x00 0xFD 0x34 [(0x0010, 0xC0)]) [] =
    [0x01, 0x00, 0x00, 0xFD, 0xF6, 0x8002, 3] := by decide

/-- 95_test_vectors.md V74: BIT abs, Z=0. -/
theorem test_V74_bitAbs : after (start [0x2C, 0x00, 0x03] 0x03 0x00 0x00 0xFD 0x34 [(0x0300, 0x01)]) [] =
    [0x03, 0x00, 0x00, 0xFD, 0x34, 0x8003, 4] := by decide

/-- 95_test_vectors.md V75: INC zp wraps. -/
theorem test_V75_incZp : after (start [0xE6, 0x10] 0x00 0x00 0x00 0xFD 0x34 [(0x0010, 0xFF)]) [0x0010] =
    [0x00, 0x00, 0x00, 0xFD, 0x36, 0x8002, 5, 0x00] := by decide

/-- 95_test_vectors.md V76: INC abs,X cross, Coarse. -/
theorem test_V76_incAbsX : after (start [0xFE, 0xFF, 0x02] 0x00 0x01 0x00 0xFD 0x34 [(0x0300, 0x7F)]) [0x0300] =
    [0x00, 0x01, 0x00, 0xFD, 0xB4, 0x8003, 8, 0x80] := by decide

/-- 95_test_vectors.md V78: DEC zp to zero. -/
theorem test_V78_decZp : after (start [0xC6, 0x10] 0x00 0x00 0x00 0xFD 0x34 [(0x0010, 0x01)]) [0x0010] =
    [0x00, 0x00, 0x00, 0xFD, 0x36, 0x8002, 5, 0x00] := by decide

/-- 95_test_vectors.md V80: INX wraps. -/
theorem test_V80_inx : after (start [0xE8] 0x00 0xFF 0x00 0xFD 0x34 []) [] =
    [0x00, 0x00, 0x00, 0xFD, 0x36, 0x8001, 2] := by decide

/-- 95_test_vectors.md V81: INY. -/
theorem test_V81_iny : after (start [0xC8] 0x00 0x00 0x7F 0xFD 0x34 []) [] =
    [0x00, 0x00, 0x80, 0xFD, 0xB4, 0x8001, 2] := by decide

/-- 95_test_vectors.md V82: DEX to zero. -/
theorem test_V82_dex : after (start [0xCA] 0x00 0x01 0x00 0xFD 0x34 []) [] =
    [0x00, 0x00, 0x00, 0xFD, 0x36, 0x8001, 2] := by decide

/-- 95_test_vectors.md V83: DEY wraps. -/
theorem test_V83_dey : after (start [0x88] 0x00 0x00 0x00 0xFD 0x34 []) [] =
    [0x00, 0x00, 0xFF, 0xFD, 0xB4, 0x8001, 2] := by decide

/-- 95_test_vectors.md V84: ASL A, bit 7 out. -/
theorem test_V84_aslAcc : after (start [0x0A] 0x80 0x00 0x00 0xFD 0x34 []) [] =
    [0x00, 0x00, 0x00, 0xFD, 0x37, 0x8001, 2] := by decide

/-- 95_test_vectors.md V85: ASL zp. -/
theorem test_V85_aslZp : after (start [0x06, 0x10] 0x00 0x00 0x00 0xFD 0x34 [(0x0010, 0x41)]) [0x0010] =
    [0x00, 0x00, 0x00, 0xFD, 0xB4, 0x8002, 5, 0x82] := by decide

/-- 95_test_vectors.md V86: LSR A, clears N. -/
theorem test_V86_lsrAcc : after (start [0x4A] 0x01 0x00 0x00 0xFD 0xB4 []) [] =
    [0x00, 0x00, 0x00, 0xFD, 0x37, 0x8001, 2] := by decide

/-- 95_test_vectors.md V87: LSR zp. -/
theorem test_V87_lsrZp : after (start [0x46, 0x10] 0x00 0x00 0x00 0xFD 0x34 [(0x0010, 0xFE)]) [0x0010] =
    [0x00, 0x00, 0x00, 0xFD, 0x34, 0x8002, 5, 0x7F] := by decide

/-- 95_test_vectors.md V88: ROL A with C=1. -/
theorem test_V88_rolAcc : after (start [0x2A] 0x80 0x00 0x00 0xFD 0x35 []) [] =
    [0x01, 0x00, 0x00, 0xFD, 0x35, 0x8001, 2] := by decide

/-- 95_test_vectors.md V89: ROL zp with C=0. -/
theorem test_V89_rolZp : after (start [0x26, 0x10] 0x00 0x00 0x00 0xFD 0x34 [(0x0010, 0x40)]) [0x0010] =
    [0x00, 0x00, 0x00, 0xFD, 0xB4, 0x8002, 5, 0x80] := by decide

/-- 95_test_vectors.md V90: ROR A with C=1. -/
theorem test_V90_rorAcc : after (start [0x6A] 0x01 0x00 0x00 0xFD 0x35 []) [] =
    [0x80, 0x00, 0x00, 0xFD, 0xB5, 0x8001, 2] := by decide

/-- 95_test_vectors.md V91: ROR zp with C=0. -/
theorem test_V91_rorZp : after (start [0x66, 0x10] 0x00 0x00 0x00 0xFD 0x34 [(0x0010, 0x02)]) [0x0010] =
    [0x00, 0x00, 0x00, 0xFD, 0x34, 0x8002, 5, 0x01] := by decide

/-- 95_test_vectors.md V92: SLO zp. -/
theorem test_V92_sloZp : after (start [0x07, 0x10] 0x01 0x00 0x00 0xFD 0x34 [(0x0010, 0x81)]) [0x0010] =
    [0x03, 0x00, 0x00, 0xFD, 0x35, 0x8002, 5, 0x02] := by decide

/-- 95_test_vectors.md V93: RLA zp. -/
theorem test_V93_rlaZp : after (start [0x27, 0x10] 0xFF 0x00 0x00 0xFD 0x35 [(0x0010, 0x40)]) [0x0010] =
    [0x81, 0x00, 0x00, 0xFD, 0xB4, 0x8002, 5, 0x81] := by decide

/-- 95_test_vectors.md V94: SRE zp. -/
theorem test_V94_sreZp : after (start [0x47, 0x10] 0x01 0x00 0x00 0xFD 0x34 [(0x0010, 0x03)]) [0x0010] =
    [0x00, 0x00, 0x00, 0xFD, 0x37, 0x8002, 5, 0x01] := by decide

/-- 95_test_vectors.md V95: RRA zp: ROR carry feeds ADC. -/
theorem test_V95_rraZp : after (start [0x67, 0x10] 0x10 0x00 0x00 0xFD 0x34 [(0x0010, 0x03)]) [0x0010] =
    [0x12, 0x00, 0x00, 0xFD, 0x34, 0x8002, 5, 0x01] := by decide

/-- 95_test_vectors.md V97: RRA zp, signed overflow. -/
theorem test_V97_rraZp : after (start [0x67, 0x10] 0x7F 0x00 0x00 0xFD 0x34 [(0x0010, 0x02)]) [0x0010] =
    [0x80, 0x00, 0x00, 0xFD, 0xF4, 0x8002, 5, 0x01] := by decide

/-- 95_test_vectors.md V98: DCP zp, equal after decrement. -/
theorem test_V98_dcpZp : after (start [0xC7, 0x10] 0x40 0x00 0x00 0xFD 0x34 [(0x0010, 0x41)]) [0x0010] =
    [0x40, 0x00, 0x00, 0xFD, 0x37, 0x8002, 5, 0x40] := by decide

/-- 95_test_vectors.md V99: DCP zp wraps. -/
theorem test_V99_dcpZp : after (start [0xC7, 0x10] 0x00 0x00 0x00 0xFD 0x34 []) [0x0010] =
    [0x00, 0x00, 0x00, 0xFD, 0x34, 0x8002, 5, 0xFF] := by decide

/-- 95_test_vectors.md V100: ISB zp. -/
theorem test_V100_isbZp : after (start [0xE7, 0x10] 0x10 0x00 0x00 0xFD 0x35 [(0x0010, 0x0F)]) [0x0010] =
    [0x00, 0x00, 0x00, 0xFD, 0x37, 0x8002, 5, 0x10] := by decide

/-- 95_test_vectors.md V101: ISB (zp),Y cross, Coarse (9 cycles). -/
theorem test_V101_isbIndY : after (start [0xF3, 0x40] 0x00 0x00 0x10 0xFD 0x35 [(0x0040, 0xF8), (0x0041, 0x03), (0x0408, 0xFF)]) [0x0408] =
    [0x00, 0x00, 0x10, 0xFD, 0x37, 0x8002, 9, 0x00] := by decide

/-- 95_test_vectors.md V103: BCC taken. -/
theorem test_V103_bcc : after (start [0x90, 0x10] 0x00 0x00 0x00 0xFD 0x34 []) [] =
    [0x00, 0x00, 0x00, 0xFD, 0x34, 0x8012, 3] := by decide

/-- 95_test_vectors.md V104: BCC not taken. -/
theorem test_V104_bcc : after (start [0x90, 0x10] 0x00 0x00 0x00 0xFD 0x35 []) [] =
    [0x00, 0x00, 0x00, 0xFD, 0x35, 0x8002, 2] := by decide

/-- 95_test_vectors.md V105: BCS taken. -/
theorem test_V105_bcs : after (start [0xB0, 0x10] 0x00 0x00 0x00 0xFD 0x35 []) [] =
    [0x00, 0x00, 0x00, 0xFD, 0x35, 0x8012, 3] := by decide

/-- 95_test_vectors.md V107: BEQ taken. -/
theorem test_V107_beq : after (start [0xF0, 0x10] 0x00 0x00 0x00 0xFD 0x36 []) [] =
    [0x00, 0x00, 0x00, 0xFD, 0x36, 0x8012, 3] := by decide

/-- 95_test_vectors.md V109: BNE taken. -/
theorem test_V109_bne : after (start [0xD0, 0x10] 0x00 0x00 0x00 0xFD 0x34 []) [] =
    [0x00, 0x00, 0x00, 0xFD, 0x34, 0x8012, 3] := by decide

/-- 95_test_vectors.md V111: BMI taken. -/
theorem test_V111_bmi : after (start [0x30, 0x10] 0x00 0x00 0x00 0xFD 0xB4 []) [] =
    [0x00, 0x00, 0x00, 0xFD, 0xB4, 0x8012, 3] := by decide

/-- 95_test_vectors.md V113: BPL taken. -/
theorem test_V113_bpl : after (start [0x10, 0x10] 0x00 0x00 0x00 0xFD 0x34 []) [] =
    [0x00, 0x00, 0x00, 0xFD, 0x34, 0x8012, 3] := by decide

/-- 95_test_vectors.md V115: BVC taken. -/
theorem test_V115_bvc : after (start [0x50, 0x10] 0x00 0x00 0x00 0xFD 0x34 []) [] =
    [0x00, 0x00, 0x00, 0xFD, 0x34, 0x8012, 3] := by decide

/-- 95_test_vectors.md V117: BVS taken. -/
theorem test_V117_bvs : after (start [0x70, 0x10] 0x00 0x00 0x00 0xFD 0x74 []) [] =
    [0x00, 0x00, 0x00, 0xFD, 0x74, 0x8012, 3] := by decide

/-- 95_test_vectors.md V127: JMP abs. -/
theorem test_V127_jmpAbs : after (start [0x4C, 0x34, 0x12] 0x00 0x00 0x00 0xFD 0x34 []) [] =
    [0x00, 0x00, 0x00, 0xFD, 0x34, 0x1234, 3] := by decide

/-- 95_test_vectors.md V128: JSR abs. -/
theorem test_V128_jsr : after (start [0x20, 0x00, 0x90] 0x00 0x00 0x00 0xFD 0x34 []) [0x01FD, 0x01FC] =
    [0x00, 0x00, 0x00, 0xFB, 0x34, 0x9000, 6, 0x80, 0x02] := by decide

/-- 95_test_vectors.md V130: RTS from a hand-built stack. -/
theorem test_V130_rts : after (start [0x60] 0x00 0x00 0x00 0xFB 0x34 [(0x01FC, 0xFF), (0x01FD, 0x8F)]) [] =
    [0x00, 0x00, 0x00, 0xFD, 0x34, 0x9000, 6] := by decide

/-- 95_test_vectors.md V131: RTS wraps $FFFF → $0000. -/
theorem test_V131_rts : after (start [0x60] 0x00 0x00 0x00 0xFB 0x34 [(0x01FC, 0xFF), (0x01FD, 0xFF)]) [] =
    [0x00, 0x00, 0x00, 0xFD, 0x34, 0x0000, 6] := by decide

/-- 95_test_vectors.md V132: RTI, reserved forced, no +1. -/
theorem test_V132_rti : after (start [0x40] 0x00 0x00 0x00 0xFA 0x34 [(0x01FC, 0x34), (0x01FD, 0x12)]) [] =
    [0x00, 0x00, 0x00, 0xFD, 0x20, 0x1234, 6] := by decide

/-- 95_test_vectors.md V135: BRK from I=0, B=0 (IRQ vector $9100). -/
theorem test_V135_brk : after (start [0x00, 0xFF] 0x00 0x00 0x00 0xFD 0x20 []) [0x01FD, 0x01FC, 0x01FB] =
    [0x00, 0x00, 0x00, 0xFA, 0x34, 0x9100, 7, 0x80, 0x02, 0x30] := by decide

/-- 95_test_vectors.md V136: PHA. -/
theorem test_V136_pha : after (start [0x48] 0x42 0x00 0x00 0xFD 0x34 []) [0x01FD] =
    [0x42, 0x00, 0x00, 0xFC, 0x34, 0x8001, 3, 0x42] := by decide

/-- 95_test_vectors.md V137: PHA at SP=$00 wraps. -/
theorem test_V137_pha : after (start [0x48] 0x42 0x00 0x00 0x00 0x34 []) [0x0100] =
    [0x42, 0x00, 0x00, 0xFF, 0x34, 0x8001, 3, 0x42] := by decide

/-- 95_test_vectors.md V138: PLA of $00 sets Z. -/
theorem test_V138_pla : after (start [0x68] 0x55 0x00 0x00 0xFC 0x34 []) [] =
    [0x00, 0x00, 0x00, 0xFD, 0x36, 0x8001, 4] := by decide

/-- 95_test_vectors.md V139: PLA at SP=$FF wraps. -/
theorem test_V139_pla : after (start [0x68] 0x00 0x00 0x00 0xFF 0x34 [(0x0100, 0x80)]) [] =
    [0x80, 0x00, 0x00, 0x00, 0xB4, 0x8001, 4] := by decide

/-- 95_test_vectors.md V140: PHP after reset pushes $34. -/
theorem test_V140_php : after (start [0x08] 0x00 0x00 0x00 0xFD 0x34 []) [0x01FD] =
    [0x00, 0x00, 0x00, 0xFC, 0x34, 0x8001, 3, 0x34] := by decide

/-- 95_test_vectors.md V142: PLP of $00 (reserved forced, B=0). -/
theorem test_V142_plp : after (start [0x28] 0x00 0x00 0x00 0xFC 0x34 []) [] =
    [0x00, 0x00, 0x00, 0xFD, 0x20, 0x8001, 4] := by decide

/-- 95_test_vectors.md V143: PLP of $FF. -/
theorem test_V143_plp : after (start [0x28] 0x00 0x00 0x00 0xFC 0x34 [(0x01FD, 0xFF)]) [] =
    [0x00, 0x00, 0x00, 0xFD, 0xFF, 0x8001, 4] := by decide

/-- 95_test_vectors.md V144: CLC. -/
theorem test_V144_clc : after (start [0x18] 0x00 0x00 0x00 0xFD 0x35 []) [] =
    [0x00, 0x00, 0x00, 0xFD, 0x34, 0x8001, 2] := by decide

/-- 95_test_vectors.md V145: SEC. -/
theorem test_V145_sec : after (start [0x38] 0x00 0x00 0x00 0xFD 0x34 []) [] =
    [0x00, 0x00, 0x00, 0xFD, 0x35, 0x8001, 2] := by decide

/-- 95_test_vectors.md V146: CLI. -/
theorem test_V146_cli : after (start [0x58] 0x00 0x00 0x00 0xFD 0x34 []) [] =
    [0x00, 0x00, 0x00, 0xFD, 0x30, 0x8001, 2] := by decide

/-- 95_test_vectors.md V147: SEI. -/
theorem test_V147_sei : after (start [0x78] 0x00 0x00 0x00 0xFD 0x30 []) [] =
    [0x00, 0x00, 0x00, 0xFD, 0x34, 0x8001, 2] := by decide

/-- 95_test_vectors.md V148: CLV. -/
theorem test_V148_clv : after (start [0xB8] 0x00 0x00 0x00 0xFD 0x74 []) [] =
    [0x00, 0x00, 0x00, 0xFD, 0x34, 0x8001, 2] := by decide

/-- 95_test_vectors.md V149: CLD. -/
theorem test_V149_cld : after (start [0xD8] 0x00 0x00 0x00 0xFD 0x3C []) [] =
    [0x00, 0x00, 0x00, 0xFD, 0x34, 0x8001, 2] := by decide

/-- 95_test_vectors.md V150: SED. -/
theorem test_V150_sed : after (start [0xF8] 0x00 0x00 0x00 0xFD 0x34 []) [] =
    [0x00, 0x00, 0x00, 0xFD, 0x3C, 0x8001, 2] := by decide

/-- 95_test_vectors.md V151: NOP $EA. -/
theorem test_V151_nop : after (start [0xEA] 0x00 0x00 0x00 0xFD 0x34 []) [] =
    [0x00, 0x00, 0x00, 0xFD, 0x34, 0x8001, 2] := by decide

/-- 95_test_vectors.md V153: NOP immediate $80. -/
theorem test_V153_nopImm80 : after (start [0x80, 0xFF] 0x00 0x00 0x00 0xFD 0x34 []) [] =
    [0x00, 0x00, 0x00, 0xFD, 0x34, 0x8002, 2] := by decide

/-- 95_test_vectors.md V155: NOP zp,X $14. -/
theorem test_V155_nopZpX14 : after (start [0x14, 0x10] 0x00 0x00 0x00 0xFD 0x34 []) [] =
    [0x00, 0x00, 0x00, 0xFD, 0x34, 0x8002, 4] := by decide

/-- 95_test_vectors.md V156: NOP abs $0C. -/
theorem test_V156_nopAbs0C : after (start [0x0C, 0x02, 0x20] 0x00 0x00 0x00 0xFD 0x34 []) [] =
    [0x00, 0x00, 0x00, 0xFD, 0x34, 0x8003, 4] := by decide

/-- 95_test_vectors.md V157: NOP abs,X $1C, cross. -/
theorem test_V157_nopAbsX1C : after (start [0x1C, 0xFF, 0x20] 0x00 0x01 0x00 0xFD 0x34 []) [] =
    [0x00, 0x01, 0x00, 0xFD, 0x34, 0x8003, 5] := by decide

/-- 95_test_vectors.md V158: NOP abs makes no read, so vblank stays; the state after the step. -/
theorem test_V158_nopAbs0C : (match step { boot [0x0C, 0x02, 0x20] with ppu := { State.reset.ppu with vblank := true } } with
    | .next t => t.ppu.vblank
    | _ => false) = true := by decide

/-- V159: UNDEF $02 records its fault at $8000 with PC = $8001. -/
theorem test_V159_undef02 : (match step (boot [0x02]) with
    | .next t => (t.fault, t.cpu.pc)
    | _ => (none, 0)) = (some (.opcodeNotImplemented 0x8000 0x02), 0x8001) := by decide

/-- V161: NMI pending, handler INX at $9000: SP, P, PC and cycles, the pushed bytes. -/
theorem test_V161_nmi : after { boot ([0xEA] ++ List.replicate 0xFFF 0 ++ [0xE8]) with nmiLine := true } [0x1FD, 0x1FC, 0x1FB] =
    [0x00, 0x01, 0x00, 0xFA, 0x24, 0x9001, 2, 0x80, 0x00, 0x24] := by decide +kernel

/-- V162: IRQ pending with I = 1 is masked, and its line stays. -/
theorem test_V162_irqMasked : (match step { boot [0xEA] with irqLine := true } with
    | .next t => (t.cpu.pc, t.irqLine)
    | _ => (0, false)) = (0x8001, true) := by decide

/-- V119 and V120: a branch at $80FE to $8104, taken and not taken; cycles under OpcodeAddr and NextPC (S3). -/
theorem test_V119_branchCross :
    (cost Config.default 0xF0 .beq .relative (resolve (.rel 0x04) { boot [] with cpu := { State.reset.cpu with pc := 0x8100 } }).extra true,
      (resolve (.rel 0x04) { boot [] with
        cfg := { Config.default with branchCrossBase := .nextPC }
        cpu := { State.reset.cpu with pc := 0x8100 } }).extra) = (4, false) := by decide

/-- V168: LDA $2002 with vblank set. -/
theorem test_V168_statusRead : (match step { boot [0xAD, 0x02, 0x20] with ppu := { State.reset.ppu with vblank := true, w := true } } with
    | .next t => (t.cpu.a, t.ppu.vblank, t.ppu.w)
    | _ => (0, true, true)) = (0x80, false, false) := by decide

/-- V171: the second write of $2006 adds to the address. -/
theorem test_V171_addrAccumulates : (busWrite 0x2006 0x20 (busWrite 0x2006 0x20 (busWrite 0x2006 0xF0
    (busWrite 0x2006 0x21 State.reset)))).ppu.vramAddr = 0x2020 := by decide

/-- S5: a palette write at $3F10 reads back at indexes $00 and $10. -/
theorem test_S5_paletteMirror :
    (let s := busWrite 0x2007 0x2A (busWrite 0x2006 0x10 (busWrite 0x2006 0x3F State.reset))
     (paletteRead s.cfg s.ppu 0x10, paletteRead s.cfg s.ppu 0x00, s.ppu.vramAddr)) = (0x2A, 0x2A, 0x3F11) := by decide

/-- V175 and V176: $3405 mirrors $2405, VRAM $0005 under Horizontal and $0405 under Vertical. -/
theorem test_V175_nametable : (ntMap .horizontal ((0x3405 - 0x2000) &&& 0xFFF), ntMap .vertical ((0x3405 - 0x2000) &&& 0xFFF)) =
    (0x0005, 0x0405) := by decide

/-- V180: a status read between two scroll writes sends both to scroll_x. -/
theorem test_V180_scrollToggle :
    (let s := busWrite 0x2005 0x34 (busRead 0x2002 (busWrite 0x2005 0x12 State.reset)).2
     (s.ppu.scrollX, s.ppu.scrollY, s.ppu.w)) = (0x34, 0x00, true) := by decide

/-- V181: OAMADDR $FF, an OAMDATA write there, and the cursor wraps. -/
theorem test_V181_oamDataWraps : (let s := busWrite 0x2004 0xAB (busWrite 0x2003 0xFF State.reset)
    (s.ppu.oam.read 0xFF, s.ppu.oamAddr)) = (0xAB, 0x00) := by decide

/-- V188: page $08 of a DMA reads RAM $0000 on (RamMirror). -/
theorem test_V188_dmaRamMirror :
    (dmaByte { State.reset with ram := [(1, 0x03)], dma := { pending := true, page := 0x08 } } 1).ppu.oam = [(1, 0x03)] := by
  decide

/-- V190: the live buttons A, START and LEFT, strobed, then ten reads. -/
theorem test_V190_controller : (readPad 10 (busWrite 0x4016 0x00 (busWrite 0x4016 0x01 (latchButtons 0x49 State.reset)))).1 =
    [1, 0, 0, 1, 0, 0, 1, 0, 1, 1] := by decide

/-- R632: the start of scanline 241 sets vblank, and NMI with control bit 7. -/
theorem test_R632_vblank :
    (let s := tick { State.reset with ppu := { State.reset.ppu with ctrl := 0x80, dot := 340, scanline := 240 } }
     (s.ppu.vblank, s.nmiLine, s.ppu.scanline)) = (true, true, 241) := by decide

/-- V196: of the OAM entries ($11,$01,$03,$20), ($01,$02,$00,$30), ($00,$03,$00,$40), ($FF,$04,$C0,$50) the sprites 0 and 3
are listed, Y less one. -/
theorem test_V196_sprites : (frameStart Config.default { State.reset.ppu with
      oam := [(0, 0x11), (1, 0x01), (2, 0x03), (3, 0x20), (4, 0x01), (5, 0x02), (7, 0x30), (9, 0x03), (11, 0x40), (12, 0xFF),
        (13, 0x04), (14, 0xC0), (15, 0x50)] }).spriteList.map (fun q => (q.oamIndex, q.y.toNat, q.x.toNat, q.tile.toNat, q.attr.toNat)) =
    [(0, 0x10, 0x20, 0x01, 0x03), (3, 0xFE, 0x50, 0x04, 0xC0)] := by decide +kernel

/-- V199: PC after reset is the word at $FFFC. -/
theorem test_V199_resetVector :
    (resetSequence { Config.default with prg := [(0x7FFC, 0x23), (0x7FFD, 0xC1)] } []).cpu.pc = 0xC123 := by decide

/-- withFetchWord: the very next step after reset runs the word, here JSR $0300 (bytes 20 00 03). -/
theorem test_withFetchWord : (match step (State.reset.withFetchWord 24 0x030020) with
    | .next t => t.cpu.pc
    | _ => 0) = 0x0300 := by decide

/-! ### Witnesses: states and operands that meet the hypotheses of each statement, at the boundary values of its clauses -/

/-- The empty memory is canonical and fits every store. -/
theorem nil_ok (n : Nat) : Memory.wf [] ∧ Memory.below [] n := ⟨⟨List.Pairwise.nil, by simp⟩, by simp [Memory.below]⟩

/-- The empty palette lists no mirror, and the empty sprite list no sprite. -/
theorem no_cell : ∀ c ∈ ([] : Memory), isPaletteMirror c.1 = false := by simp
theorem no_sprite : ∀ q ∈ ([] : List Sprite), q.oamIndex < 64 ∧ 1 ≤ q.y.toNat ∧ q.y.toNat ≤ 254 ∧ q.pattern.length = 16 := by
  simp

/-- A booted machine meets the invariant. -/
theorem boot_inv (bs : List Byte) (h : (boot bs).cfg.prg.wf ∧ (boot bs).cfg.prg.below 0x8000) : (boot bs).Inv := by
  refine ⟨⟨nil_ok _, h, nil_ok _, nil_ok _, nil_ok _, nil_ok _, no_cell⟩,
    ⟨show (List.replicate 33 BgTile.blank).length = 33 * bandsBuilt 0 by decide, ?_, no_sprite, List.Pairwise.nil⟩,
    show 0 < 341 by decide, show 0 < 262 by decide, show 0 ≤ 8 by decide, rfl⟩
  intro t ht
  rw [List.eq_of_mem_replicate (show t ∈ List.replicate 33 BgTile.blank from ht)]
  rfl

theorem witness_inv : (boot [0xA9, 0x5A]).Inv := boot_inv _ (by decide)

theorem witness_DecodeOfEncodeIsTheInstruction : (Instr.staAbsX 0xFFFF).wellFormed = true := by
  decide

theorem witness_EncodeOfDecodeIsTheBytes : decode [0x9D, 0xFF, 0xFF, 0xEA] = .ok (.staAbsX 0xFFFF, [0xEA]) := rfl

theorem witness_LengthFollowsFromTheOpcodeMode :
    decode [0x9D, 0x00] = .error (.missingOperand 0x9D) ∧ decode [0xA9] = .error (.missingOperand 0xA9) ∧
    decode [0x9D, 0x00, 0x03] = .ok (.staAbsX 0x0300, []) ∧ decode [0xA9, 0x00] = .ok (.ldaImm 0, []) ∧
    decode [0xEA] = .ok (.nop, []) := ⟨rfl, rfl, rfl, rfl, rfl⟩

/-- STA $0300,X in PRG; NOP fetched from $2007's read buffer, which the fetch refills (R209); BRK fetched from the open range at
$5000 (R204); an instruction across $FFFF and $0000. -/
theorem witness_StepRunsTheDecodedInstruction :
    (boot [0x9D, 0x00, 0x03]).fault = none ∧ (takeIrqInput (boot [0x9D, 0x00, 0x03])).dma.pending = false ∧
    decode [0x9D, 0x00, 0x03] = .ok (.staAbsX 0x0300, []) ∧
    [0, 1, 2].map (fun k => (busRead (0x8000 + BitVec.ofNat 16 k) (boot [0x9D, 0x00, 0x03])).1) = [0x9D, 0x00, 0x03] ∧
    interruptCheck (takeIrqInput (boot [0x9D, 0x00, 0x03])) = boot [0x9D, 0x00, 0x03] ∧
    (∀ k < 3, holdsCode Config.default (0x8000 + BitVec.ofNat 16 k) = true) ∧
    holdsCode Config.default 0xFFFF = true ∧ holdsCode Config.default 0x0000 = true ∧ holdsCode Config.default 0x1FFF = true := by
  refine ⟨rfl, rfl, rfl, by decide, rfl, by decide, by decide, by decide, by decide⟩

/-- A machine about to fetch at an address that holds neither RAM nor PRG, with $EA in the read buffer. -/
def fetchAt (pc : Word) : State :=
  { boot [] with cpu := { State.reset.cpu with pc := pc }, ppu := { State.reset.ppu with readBuffer := 0xEA } }

theorem witness_StepRunsTheDecodedInstruction_anyAddress :
    (fetchAt 0x2007).fault = none ∧ (takeIrqInput (fetchAt 0x2007)).dma.pending = false ∧
    interruptCheck (takeIrqInput (fetchAt 0x2007)) = fetchAt 0x2007 ∧ (busRead 0x2007 (fetchAt 0x2007)).1 = 0xEA ∧
    decode [0xEA, 0x00, 0x00] = .ok (.nop, [0x00, 0x00]) ∧ (busRead 0x5000 (fetchAt 0x5000)).1 = 0x00 ∧
    decode [0x00, 0x00, 0x00] = .ok (.brk, [0x00, 0x00]) := ⟨rfl, rfl, rfl, rfl, rfl, rfl, rfl⟩

/-- R209 at a fetch: the opcode fetched at $2007 is the buffered byte, and the fetch moves the VRAM address by one. -/
theorem test_fetchFromDataPort : (match step (fetchAt 0x2007) with
    | .next t => (t.cpu.pc, t.ppu.vramAddr, t.ppu.readBuffer)
    | _ => (0, 0, 0)) = (0x2008, 1, 0x00) := by decide

/-- R204 at a fetch: $5000 reads 0, so BRK runs: it pushes $5002 and the status and enters at the IRQ vector. -/
theorem test_fetchFromOpenRange : (match step (fetchAt 0x5000) with
    | .next t => (t.cpu.pc, t.ram)
    | _ => (1, [])) = (0x9100, [(0x1FB, 0x34), (0x1FC, 0x02), (0x1FD, 0x50)]) := by decide

theorem witness_UndefinedOpcodesFault :
    { State.reset with fault := some (.opcodeNotImplemented 0x8000 0x02) }.fault = some (.opcodeNotImplemented 0x8000 0x02) ∧
    Instr.undef02 ∈ ([.undef02] : List Instr) := ⟨rfl, by simp⟩

theorem witness_AddAndSubtractAreExact :
    (∃ t, exec (.adcImm 0x7F) { State.reset with cpu := { State.reset.cpu with a := 0x7F } } = .next t) ∧
    ∃ t, exec (.sbcImm 0x80) State.reset = .next t := ⟨⟨_, rfl⟩, ⟨_, rfl⟩⟩

theorem witness_AddressingModesCompute :
    (Operand.zp 0xFF).mode ≠ .immediate ∧ Operand.none.mode ≠ .immediate ∧
    (Instr.ldxZpY 0).row.operand.mode = .zeroPageY ∧ (Instr.beq 0x80).row.operand.mode = .relative ∧
    (Instr.jmpInd 0xFFFF).row.operand.mode = .indirect := by
  refine ⟨by decide, by decide, rfl, rfl, rfl⟩

theorem witness_CycleCostAndPageCrossCharge : Mode.absoluteX ≠ .relative ∧ Mode.implied ≠ .relative := by decide

/-- A CPU iteration and a DMA iteration. -/
theorem witness_EveryIterationReportsAtLeastTwoCycles :
    (boot [0xEA]).cfg.wellFormed = true ∧ (boot [0xEA]).cfg.baseCycles = nmosBaseCycles ∧ (boot [0xEA]).dma.pending = false ∧
    (∃ t, step (boot [0xEA]) = .next t ∧ t.fault = none) ∧
    { boot [0xEA] with dma := { pending := true, page := 0 } }.dma.pending = true ∧
    ∃ t, step { boot [0xEA] with dma := { pending := true, page := 0 } } = .next t := by
  refine ⟨by decide +kernel, rfl, rfl, ⟨_, rfl, by decide⟩, rfl, ⟨_, rfl⟩⟩

theorem witness_StatusByteLayout : State.reset.cpu.p.r = true ∧ ∃ t, exec .php State.reset = .next t := ⟨rfl, ⟨_, rfl⟩⟩

/-- The three clauses: NMI with IRQ pending; IRQ alone with I = 0; IRQ masked. -/
theorem witness_InterruptPriorityAndMask :
    (let s := { boot [] with nmiLine := true, irqLine := true }
     s.nmiLine = true) ∧
    (let s := { boot [] with irqLine := true, cpu := { State.reset.cpu with p := Status.unpack 0x20 } }
     s.nmiLine = false ∧ s.irqLine = true ∧ s.cpu.p.i = false) ∧
    (let s := { boot [] with irqLine := true }
     s.nmiLine = false ∧ s.cpu.p.i = true) := by decide

theorem witness_InterruptEntrySequence : nmiVector ∈ ([nmiVector, irqVector] : List Word) ∧
    irqVector ∈ ([nmiVector, irqVector] : List Word) := by decide

/-- The longest run of pushes, over the whole page. -/
theorem witness_PullsReverseThePushes : (List.replicate 256 (0x42 : Byte)).length ≤ 256 ∧ State.reset.ram.wf :=
  ⟨Nat.le_of_eq List.length_replicate, (nil_ok 0).1⟩

theorem witness_CallReturnAndStatusRoundTrips : State.reset.ram.wf ∧ { State.reset with nmiLine := true }.nmiLine = true ∧
    (let s := { State.reset with irqLine := true, cpu := { State.reset.cpu with p := Status.unpack 0x20 } }
     s.irqLine = true ∧ s.cpu.p.i = false) := ⟨(nil_ok 0).1, rfl, rfl, rfl⟩

/-- Each range of the read map at its ends, and the two values beside $4016. -/
theorem witness_CpuBusReadMap :
    [0x0000, 0x1FFF, 0x2000, 0x3FFF, 0x4000, 0x4014, 0x4015, 0x4016, 0x4017, 0x7FFF, 0x8000, 0xFFFF].map
      (busTarget Config.default) = [.ram 0, .ram 0x7FF, .ppuReg .ctrl, .ppuReg .data, .unmapped, .oamDma, .unmapped, .controller,
        .unmapped, .unmapped, .prg 0, .prg 0x7FFF] := by decide

/-- The same of the write map. -/
theorem witness_CpuBusWriteMap :
    (busWrite 0x1FFF 0x55 State.reset).ram = [(0x7FF, 0x55)] ∧ (busWrite 0x2000 0x55 State.reset).ppu.ctrl = 0x55 ∧
    (busWrite 0x4014 0x55 State.reset).dma = { pending := true, page := 0x55 } ∧
    (busWrite 0x4016 0x55 State.reset).pad.strobe = true ∧ busWrite 0x4015 0x55 State.reset = State.reset ∧
    busWrite 0x4000 0x55 State.reset = State.reset ∧ busWrite 0xFFFF 0x55 State.reset = State.reset :=
  ⟨rfl, rfl, rfl, rfl, rfl, rfl, rfl⟩

/-- The last RAM byte in its last mirror, the last mirror of the PPU window, the top of PRG, a 16 KiB image. -/
theorem witness_MirrorsReachTheSamePlace :
    (0x7FF < 0x800 ∧ 3 ≤ 3 ∧ State.reset.ram.wf) ∧ (0x2000 ≤ 0x2007 ∧ 0x2007 < 0x2008 ∧ 0x2007 + 8 * 1023 < 0x4000) ∧
    (0x8000 ≤ 0xFFFF ∧ 0xFFFF < 0x10000 ∧ State.reset.cfg.prgSize = .kib32) ∧
    (0x8000 ≤ 0xBFFF ∧ 0xBFFF < 0xC000 ∧
      { State.reset with cfg := { State.reset.cfg with prgSize := .kib16 } }.cfg.prgSize = .kib16) := by
  refine ⟨⟨by decide, by decide, (nil_ok 0).1⟩, by decide, by decide, by decide⟩

theorem witness_OnlyThreeRegistersHaveReadSideEffects :
    (0x2002 : Word).toNat % 8 = 2 ∧ (0x3FFA : Word).toNat % 8 = 2 ∧ (0x2007 : Word).toNat % 8 = 7 ∧
    (0x3FFF : Word).toNat % 8 = 7 ∧ (0x4016 : Word).toNat = 0x4016 ∧ (0x4017 : Word).toNat ≠ 0x4016 ∧
    ¬(0x2000 ≤ (0x1FFF : Word).toNat) ∧ ¬((0x4002 : Word).toNat ≤ 0x3FFF) := by decide

theorem witness_BusWriteChangesOneByte : MemoriesOk (boot [0xA9, 0x5A]) := witness_inv.memories

theorem witness_PpuBusReadsTheLatestWrite : 0x3FFF < 0x4000 ∧ 0x0000 < 0x4000 ∧ State.reset.ppu.chr.wf ∧
    State.reset.ppu.vram.wf ∧ State.reset.ppu.palette.wf :=
  ⟨by decide, by decide, (nil_ok 0).1, (nil_ok 0).1, (nil_ok 0).1⟩

theorem witness_NametableMirroring : 0xFFF < 0x1000 ∧ ntMap .horizontal 0xFFF = 0x7FF ∧ ntMap .vertical 0xFFF = 0x7FF ∧
    ntMap .horizontal 0x400 = 0x000 ∧ ntMap .vertical 0x800 = 0x000 := by decide

theorem witness_PaletteFoldAndReadView : 0x1C < 32 ∧ 0x1C ∈ ([0x10, 0x14, 0x18, 0x1C] : List Nat) ∧
    0x1F ∉ ([0x10, 0x14, 0x18, 0x1C] : List Nat) ∧ 0x0C ∈ ([0x04, 0x08, 0x0C] : List Nat) ∧
    { Config.default with paletteBgMirrorCollapse := true }.paletteBgMirrorCollapse = true := by decide

/-- Every register of the window is selected, at its first and its last mirror, and both cases of $2007. -/
theorem witness_PpuRegisterFile :
    [0x2000, 0x2001, 0x2002, 0x2003, 0x2004, 0x2005, 0x2006, 0x2007].map (fun a : Word => a.toNat % 8) = [0, 1, 2, 3, 4, 5, 6, 7] ∧
    [0x3FF8, 0x3FF9, 0x3FFA, 0x3FFB, 0x3FFC, 0x3FFD, 0x3FFE, 0x3FFF].map (fun a : Word => a.toNat % 8) = [0, 1, 2, 3, 4, 5, 6, 7] ∧
    0x3F00 ≤ ((0x7F00 : Word) &&& 0x3FFF).toNat ∧ ((0x3EFF : Word) &&& 0x3FFF).toNat < 0x3F00 := by decide

/-- The last dot of a frame, and the first. -/
theorem witness_DotsCountModuloTheFrame :
    (340 < 341 ∧ 261 < 262) ∧ State.reset.ppu.dot < 341 ∧ State.reset.ppu.scanline < 262 ∧
    frameDots ≤ ({ State.reset.ppu with dot := 340, scanline := 261 }).position + 1 := by decide

/-- A dot inside a line, the dot into line 241, the dot into line 0 without and with a result of the run. -/
theorem witness_ScanlineFlagsAndNmi :
    (let p := { State.reset.ppu with dot := 339 }
     p.scanline < 262 ∧ p.dot < 340) ∧
    (let p := { State.reset.ppu with dot := 340, scanline := 240 }
     p.scanline < 262 ∧ p.dot = 340) ∧
    (let p := { State.reset.ppu with dot := 340, scanline := 261 }
     p.scanline < 262 ∧ p.dot = 340) ∧
    (let s := { State.reset with
      ppu := { State.reset.ppu with dot := 340, scanline := 261 }
      frameOut := some (emitFrame Config.default State.reset.ppu) }
     s.ppu.scanline < 262 ∧ s.ppu.dot = 340 ∧ s.frameOut.isSome = true) := ⟨by decide, by decide, by decide, by decide, rfl, rfl⟩

/-- A dot inside a line; the dots into 232 (the last band), into 233 and 240 (no band) and from 261 into 0. -/
theorem witness_BandOfTilesBuilt :
    (let p := { State.reset.ppu with dot := 339, scanline := 261 }
     p.scanline < 262 ∧ p.dot < 340) ∧
    (∀ line ∈ [231, 232, 239, 261],
      ({ State.reset.ppu with dot := 340, scanline := line } : Ppu).scanline < 262 ∧
      ({ State.reset.ppu with dot := 340, scanline := line } : Ppu).dot = 340) := by decide

/-- R633, R631: the dot from 261 into 0 drops the list of the last frame and builds the 33 tiles of band 0. -/
theorem test_R633_firstBand :
    (tick { State.reset with ppu := { State.reset.ppu with
      dot := 340, scanline := 261, bgList := List.replicate 990 BgTile.blank } }).ppu.bgList.length = 33 := by decide +kernel

theorem witness_FrameEmittedAtItsEnd :
    (let s := { State.reset with ppu := { State.reset.ppu with dot := 340, scanline := 261 } }
     s.ppu.scanline = 261 ∧ s.ppu.dot = 340 ∧ s.frameOut = none) := ⟨rfl, rfl, rfl⟩

/-- A machine in the invariant on the last dot of a frame; its step answers a frame. -/
def lastDot : State :=
  { boot [0xEA] with ppu := { State.reset.ppu with
      dot := 340, scanline := 261, bgList := List.replicate 990 BgTile.blank } }

theorem lastDot_inv : lastDot.Inv := by
  have h : (boot [0xEA]).Inv := boot_inv _ (by decide)
  refine ⟨⟨nil_ok _, h.memories.prg, nil_ok _, nil_ok _, nil_ok _, nil_ok _, no_cell⟩,
    ⟨List.length_replicate, ?_, no_sprite, List.Pairwise.nil⟩, show 340 < 341 by decide, show 261 < 262 by decide,
    show 0 ≤ 8 by decide, rfl⟩
  intro t ht
  rw [List.eq_of_mem_replicate (show t ∈ List.replicate 990 BgTile.blank from ht)]
  rfl

theorem witness_EmittedFramesHaveTheirFormat :
    lastDot.Inv ∧ ∃ t f, step lastDot = .next t ∧ t.frameOut = some f := ⟨lastDot_inv, _, _, rfl, rfl⟩

theorem witness_DmaFillsOamAndStalls :
    (let s := { boot [0xEA] with dma := { pending := true, page := 0x02 } }
     s.ppu.oam.wf ∧ s.fault = none ∧ s.dma.pending = true ∧ s.ppu.dot < 341 ∧ s.ppu.scanline < 262 ∧
       ({ s with irqLine := true } : State).irqLine = true) := by decide

/-- Reads within the eight buttons and after them. -/
theorem witness_ControllerReadsTheButtonsInOrder :
    (0x00 : Byte).getLsbD 0 = false ∧ (0x01 : Byte).getLsbD 0 = true ∧ (0xFE : Byte).getLsbD 0 = false ∧
    State.reset.pad.index < 8 ∧ 8 ≤ ({ State.reset.pad with index := 8 } : Controller).index := by decide

/-- The two sizes of PRG, CHR-RAM and CHR-ROM; a refused one. -/
theorem witness_PowerOnInstallsTheCartridge :
    Cartridge.wellFormed ⟨List.replicate 16384 0xEA, [], .vertical⟩ = true ∧
    Cartridge.wellFormed ⟨List.replicate 32768 0xEA, List.replicate 8192 1, .horizontal⟩ = true ∧
    Cartridge.wellFormed ⟨[], [], .horizontal⟩ = false := by
  refine ⟨?_, ?_, rfl⟩ <;> simp only [Cartridge.wellFormed, List.length_replicate] <;> decide

theorem witness_StepKeepsTheInvariant :
    (boot [0xA9, 0x5A]).Inv ∧ ∃ t, step (boot [0xA9, 0x5A]) = .next t := ⟨witness_inv, _, rfl⟩

/-- An UNDEF byte at PC, another byte, a DMA pending in front of an UNDEF byte, and a recorded fault. -/
theorem witness_OnlyARecordedFaultStopsAStep :
    (boot [0x02]).fault = none ∧ (boot [0x02]).dma.pending = false ∧
    (interruptCheck (takeIrqInput (boot [0x02]))).cpu.pc = 0x8000 ∧ (busRead 0x8000 (boot [0x02])).1 = 0x02 ∧
    (tableEntry 0x02).1 = .undef ∧
    (∃ t, step (boot [0x02]) = .next t ∧ t.fault = some (.opcodeNotImplemented 0x8000 0x02)) ∧
    (∃ t, step (boot [0xEA]) = .next t ∧ t.fault = none) ∧
    { boot [0x02] with dma := { pending := true, page := 0 } }.fault = none ∧
    { boot [0x02] with dma := { pending := true, page := 0 } }.dma.pending = true ∧
    { boot [] with fault := some (.opcodeNotImplemented 0x8000 0x02) }.fault ≠ none := by
  refine ⟨rfl, rfl, rfl, by decide, rfl, ⟨_, rfl, rfl⟩, ⟨_, rfl, by decide⟩, rfl, rfl, by decide⟩

theorem witness_CartridgeMemoryIsNeverWritten :
    (let s := { boot [0xA9, 0x5A] with cfg := { (boot [0xA9, 0x5A]).cfg with chrIsRam := false } }
     s.cfg.chrIsRam = false ∧ s.dma.pending = false ∧ ∃ t, step s = .next t) ∧
    (let s := { boot [] with dma := { pending := true, page := 0 } }
     s.dma.pending = true ∧ ∃ t, step s = .next t) := ⟨⟨rfl, rfl, _, rfl⟩, rfl, _, rfl⟩

theorem witness_StepFrameIsBounded : (boot [0xA9, 0x5A]).Inv ∧ (boot [0xA9, 0x5A]).cfg.wellFormed = true ∧
    (boot [0xA9, 0x5A]).fault = none := ⟨witness_inv, by decide +kernel, rfl⟩

/-- No schedule; an entry that asserts with I = 0, with I = 1 and in a DMA iteration; a line that stood asserted. -/
theorem witness_TheIrqLineFollowsItsInput :
    (boot [0xEA]).irqInput = [] ∧
    (let s := { boot [0xEA] with irqInput := [true, false], cpu := { State.reset.cpu with p := Status.unpack 0x20 } }
     s.irqInput = true :: [false] ∧ s.nmiLine = false ∧ s.cpu.p.i = false ∧ ∃ t, step s = .next t) ∧
    (let s := { boot [0xEA] with irqInput := [true] }
     s.irqInput = true :: [] ∧ s.cpu.p.i = true ∧ ∃ t, step s = .next t) ∧
    (let s := { boot [0xEA] with irqInput := [true], dma := { pending := true, page := 0 } }
     s.irqInput = true :: [] ∧ ∃ t, step s = .next t) ∧
    (let s := assertIrq (boot [0xEA])
     s.irqLine = true ∧ ∃ t, step s = .next t) :=
  ⟨rfl, ⟨rfl, rfl, rfl, _, rfl⟩, ⟨rfl, rfl, _, rfl⟩, ⟨rfl, _, rfl⟩, rfl, _, rfl⟩

theorem witness_LatchedButtonsAreReadAfterTheNextStrobe :
    (0x00 : Byte).getLsbD 0 = false ∧ (0x01 : Byte).getLsbD 0 = true ∧
    ∃ t, step (latchButtons 0xFF (boot [0xEA])) = .next t := ⟨rfl, rfl, _, rfl⟩

/-- Instructions outside each list of writers, and inside the last. -/
theorem witness_FlagsChangeOnlyByTheirWriters :
    (∃ t, exec (.staZp 0) State.reset = .next t) ∧ (∃ t, exec .plp State.reset = .next t) ∧
    Mnemonic.sta ∉ ([.plp, .rti] : List Mnemonic) ∧ Mnemonic.plp ∈ ([.plp, .rti] : List Mnemonic) :=
  ⟨⟨_, rfl⟩, ⟨_, rfl⟩, by decide, by decide⟩

theorem witness_RegistersChangeOnlyByTheirWriters :
    (∃ t, exec (.nopZp04 0) State.reset = .next t) ∧ (∃ t, exec (.aslZp 0) State.reset = .next t) ∧
    (Instr.aslZp 0).row.operand ≠ .accumulator := ⟨⟨_, rfl⟩, ⟨_, rfl⟩, by decide⟩

/-- One instruction of each clause, with a place it does not store to. -/
theorem witness_MemoryChangesOnlyWhereAnInstructionStores :
    (∃ t, exec (.staZp 0x10) State.reset = .next t ∧
      storedPlace (resolve (.zp 0x10) State.reset).payload State.reset = some (.ram 0x10)) ∧
    (∃ t, exec (.incAbs 0x2007) State.reset = .next t ∧
      storedPlace 0x2007 (busRead 0x2007 State.reset).2 ≠ some (.vram 0)) ∧
    (∃ t, exec .pha State.reset = .next t) ∧ (∃ t, exec (.jsr 0x9000) State.reset = .next t) ∧
    (∃ t, exec .brk State.reset = .next t) ∧ (∃ t, exec .tax State.reset = .next t) ∧
    Place.ram 0x11 ≠ .ram 0x10 ∧ Place.ram 0x00 ≠ .ram (0x100 + (State.reset.cpu.sp - 2).toNat) := by
  refine ⟨⟨_, rfl, by decide⟩, ⟨_, rfl, by decide⟩, ⟨_, rfl⟩, ⟨_, rfl⟩, ⟨_, rfl⟩, ⟨_, rfl⟩, by decide, by decide⟩

theorem witness_InstructionsLeaveTheOtherUnits :
    (∃ t, exec .tax State.reset = .next t) ∧ (Instr.tax).row.mnemonic ≠ .undef ∧ Mnemonic.tax ∉
      ([.sta, .stx, .sty, .sax, .inc, .dec, .asl, .lsr, .rol, .ror, .slo, .rla, .sre, .rra, .dcp, .isb] : List Mnemonic) :=
  ⟨⟨_, rfl⟩, by decide, by decide⟩

end Sys2Proof.Tests
end

section
/-! SUPPORT. The frame of the memories, byte by byte (`State.byteAt`): a read changes no byte, a bus write at most the byte of
its `storedPlace`, and from these and `execRow_effect` what an instruction can do to a byte; then O57. -/

namespace Sys2Proof.Machine

/-! ### One rule per operation -/

section ByteAt
variable (s : State) (q : Place)

/-- No byte of memory stands in the CPU registers, the cycle count or the fault. -/
theorem byteAt_withRegisters (c : Cpu) (n : Nat) (f : Option Fault) :
    ({ s with cpu := c, cycles := n, fault := f } : State).byteAt q = s.byteAt q := by
  cases q <;> rfl

/-- The side effects of a bus read reach no byte of memory (20_memory.md R209). -/
@[simp] theorem busRead_byteAt (a : Word) : (busRead a s).2.byteAt q = s.byteAt q := by
  rcases busRead_state a s with ⟨_, _, _, _, h⟩ | h <;> rw [h] <;> cases q <;> rfl

/-- Nor do the pointer reads of a mode. -/
@[simp] theorem resolve_byteAt (o : Operand) : (resolve o s).state.byteAt q = s.byteAt q := by
  cases o
  case ind w => exact (busRead_byteAt _ q _).trans (busRead_byteAt s q w)
  all_goals rw [resolve_state _ s (by simp)]

@[simp] theorem readOperand_byteAt (o : Operand) : (readOperand o s).2.2.byteAt q = s.byteAt q := by
  rcases readOperand_state o s with h | h <;> simp [h]

variable {s q}

theorem byteAt_writeRam_of_ne {i : Nat} (h : q ≠ .ram i) (m : Memory) (v : Byte) :
    ({ s with ram := m.write i v } : State).byteAt q = ({ s with ram := m } : State).byteAt q := by
  cases q with
  | ram j => exact Memory.read_write_other m v fun e => h (e ▸ rfl)
  | chr | vram | palette | oam => rfl

/-- A PPU-bus write changes at most the byte of its place (20_memory.md R221, R223). -/
theorem byteAt_ppuWrite_of_ne {e : Nat} (h : ppuStoredPlace s.cfg e ≠ some q) (v : Byte) :
    ({ s with ppu := ppuWrite s.cfg s.ppu e v } : State).byteAt q = s.byteAt q := by
  by_cases hc : e ≤ 0x1FFF
  · by_cases hr : s.cfg.chrIsRam = true
    · simp only [ppuStoredPlace, ppuWrite, hc, hr, if_true] at h ⊢
      cases q with
      | chr j => exact Memory.read_write_other _ v fun k => h (k ▸ rfl)
      | ram | vram | palette | oam => rfl
    · simp only [ppuWrite, hc, hr, if_true]
      rfl
  · by_cases hv : e ≤ 0x3EFF
    · simp only [ppuStoredPlace, ppuWrite, hc, hv, if_true, if_false] at h ⊢
      cases q with
      | vram j => exact Memory.read_write_other _ v fun k => h (k ▸ rfl)
      | ram | chr | palette | oam => rfl
    · simp only [ppuStoredPlace, ppuWrite, paletteWrite, hc, hv, if_false] at h ⊢
      cases q with
      | palette j => exact Memory.read_write_other _ v fun k => h (k ▸ rfl)
      | ram | chr | vram | oam => rfl

/-- A register write changes at most OAM at the cursor (60_exceptions.md R625) or what a PPU-bus write changes (R628). -/
theorem byteAt_ppuRegWrite_of_ne {r : PpuReg} (ho : r = .oamData → q ≠ .oam s.ppu.oamAddr.toNat)
    (hd : r = .data → ppuStoredPlace s.cfg (effectiveAddr s.ppu) ≠ some q) (v : Byte) :
    ({ s with ppu := ppuRegWrite s.cfg r v s.ppu } : State).byteAt q = s.byteAt q := by
  cases r with
  | oamData =>
    cases q with
    | oam j => exact Memory.read_write_other _ v fun e => ho rfl (e ▸ rfl)
    | ram | chr | vram | palette => rfl
  | data =>
    rw [← byteAt_ppuWrite_of_ne (hd rfl) v]
    cases q <;> rfl
  | scroll =>
    simp only [ppuRegWrite, scrollWrite]
    split <;> cases q <;> rfl
  | addr =>
    simp only [ppuRegWrite, addrWrite]
    split <;> cases q <;> rfl
  | ctrl | mask | status | oamAddr => cases q <;> rfl

/-- A bus write changes at most the byte of its place (20_memory.md R205). -/
theorem byteAt_busWrite_of_ne {a : Word} (h : storedPlace a s ≠ some q) (v : Byte) :
    (busWrite a v s).byteAt q = s.byteAt q := by
  unfold storedPlace at h
  rcases busWrite_state a v s with ⟨i, ht, e⟩ | ⟨r, ht, e⟩ | ⟨-, e⟩ | ⟨-, e⟩ | e <;> rw [e]
  · simp only [ht] at h
    exact byteAt_writeRam_of_ne (fun k => h (k ▸ rfl)) s.ram v
  · simp only [ht] at h
    refine byteAt_ppuRegWrite_of_ne ?_ ?_ v
    · rintro rfl rfl
      exact h rfl
    · rintro rfl
      exact h
  all_goals cases q <;> rfl

end ByteAt

/-! ### What an instruction can do to a byte -/

/-- The stack byte `k` below the stack pointer (10_state.md R101). -/
def stackPlace (s : State) (k : Byte) : Place := .ram (0x100 + (s.cpu.sp - k).toNat)

/-- The instruction of the row may store to `q`: what O57 excludes, mnemonic by mnemonic. `exec_byteAt` says that a byte
outside it does not change. -/
def StoresAt (r : Row) (s : State) (q : Place) : Prop :=
  let a := resolve r.operand s
  match r.mnemonic with
  | .sta | .stx | .sty | .sax => storedPlace a.payload a.state = some q
  | .inc | .dec | .asl | .lsr | .rol | .ror | .slo | .rla | .sre | .rra | .dcp | .isb =>
    r.operand ≠ .accumulator ∧ storedPlace a.payload (busRead a.payload a.state).2 = some q
  | .pha | .php => q = stackPlace s 0
  | .jsr => q = stackPlace s 0 ∨ q = stackPlace s 1
  | .brk => q = stackPlace s 0 ∨ q = stackPlace s 1 ∨ q = stackPlace s 2
  | _ => False

section StoresAt
variable {r : Row} {s : State} {q : Place}

theorem storesAt_of_store (h : r.mnemonic ∈ storeMnemonics) : StoresAt r s q ↔
    storedPlace (resolve r.operand s).payload (resolve r.operand s).state = some q := by
  unfold StoresAt
  split <;> simp_all [storeMnemonics]

theorem storesAt_of_rmw (h : r.mnemonic ∈ rmwMnemonics) : StoresAt r s q ↔
    r.operand ≠ .accumulator ∧ storedPlace (resolve r.operand s).payload
      (busRead (resolve r.operand s).payload (resolve r.operand s).state).2 = some q := by
  unfold StoresAt
  split <;> simp_all [rmwMnemonics]

theorem storesAt_of_push (h : r.mnemonic = .pha ∨ r.mnemonic = .php) : StoresAt r s q ↔ q = stackPlace s 0 := by
  rcases h with h | h <;> simp only [StoresAt, h]

theorem storesAt_of_jsr (h : r.mnemonic = .jsr) : StoresAt r s q ↔ q = stackPlace s 0 ∨ q = stackPlace s 1 := by
  simp only [StoresAt, h]

theorem storesAt_of_brk (h : r.mnemonic = .brk) :
    StoresAt r s q ↔ q = stackPlace s 0 ∨ q = stackPlace s 1 ∨ q = stackPlace s 2 := by
  simp only [StoresAt, h]

/-- Only these mnemonics store. -/
theorem StoresAt.mnemonic_mem (h : StoresAt r s q) :
    r.mnemonic ∈ storeMnemonics ++ rmwMnemonics ++ [.pha, .php, .jsr, .brk] := by
  unfold StoresAt at h
  split at h
  case h_21 => exact h.elim
  all_goals simp [storeMnemonics, rmwMnemonics, *]

/-- An effect changes no byte the instruction does not store to. -/
theorem Effect.byteAt_eq {u : State} (h : Effect r s u) (hq : ¬StoresAt r s q) : u.byteAt q = s.byteAt q := by
  have h0 : stackPlace s 0 = .ram (0x100 + s.cpu.sp.toNat) := by simp [stackPlace]
  have h1 : stackPlace s 1 = .ram (0x100 + (s.cpu.sp - 1).toNat) := rfl
  have h2 : stackPlace s 2 = .ram (0x100 + (s.cpu.sp - 1 - 1).toNat) := by
    rw [stackPlace, BitVec.sub_sub]
    rfl
  cases h with
  | same => rfl
  | read => exact readOperand_byteAt s q _
  | resolved => exact resolve_byteAt s q _
  | store v hm =>
    rw [storesAt_of_store hm] at hq
    rw [byteAt_busWrite_of_ne hq, resolve_byteAt]
  | readWrite v hm ho =>
    rw [storesAt_of_rmw hm] at hq
    rw [byteAt_busWrite_of_ne fun k => hq ⟨ho, k⟩, busRead_byteAt, resolve_byteAt]
  | push1 v hm =>
    rw [storesAt_of_push hm, h0] at hq
    exact byteAt_writeRam_of_ne hq s.ram v
  | push2 v w hm =>
    rw [storesAt_of_jsr hm, h0, h1, not_or] at hq
    rw [byteAt_writeRam_of_ne hq.2, byteAt_writeRam_of_ne hq.1, ← resolve_ram r.operand s]
    exact resolve_byteAt s q _
  | push3 v w x hm =>
    rw [storesAt_of_brk hm, h0, h1, h2, not_or, not_or] at hq
    obtain ⟨hq0, hq1, hq2⟩ := hq
    rw [byteAt_writeRam_of_ne hq2, byteAt_writeRam_of_ne hq1, byteAt_writeRam_of_ne hq0]

end StoresAt

/-- An instruction changes no byte it does not store to. -/
theorem exec_byteAt {i : Instr} {s t : State} {q : Place} (h : exec i s = .next t) (hq : ¬StoresAt i.row s q) :
    t.byteAt q = s.byteAt q := by
  rw [exec_eq_execRow] at h
  obtain ⟨u, c, n, f, hu, rfl, -⟩ := execRow_effect h
  rw [byteAt_withRegisters, hu.byteAt_eq hq]

/-- Settles O57: a byte that changes is one the instruction stores to (`exec_byteAt`), and each clause shuts that out for its
mnemonics. -/
theorem memoryChangesOnlyWhereAnInstructionStores : Obligations.MemoryChangesOnlyWhereAnInstructionStores := by
  intro i s t q h
  dsimp only
  refine ⟨fun hm hp => exec_byteAt h ?_, fun hm hp => exec_byteAt h ?_, fun hm h0 => exec_byteAt h ?_,
    fun hm h0 h1 => exec_byteAt h ?_, fun hm h0 h1 h2 => exec_byteAt h ?_, fun hm => exec_byteAt h ?_⟩
  · rwa [storesAt_of_store hm]
  · rw [storesAt_of_rmw hm]
    exact fun ⟨ho, k⟩ => hp.elim ho (· k)
  · rw [storesAt_of_push (by simpa using hm)]
    exact h0
  · rw [storesAt_of_jsr hm, not_or]
    exact ⟨h0, h1⟩
  · rw [storesAt_of_brk hm, not_or, not_or]
    exact ⟨h0, h1, h2⟩
  · exact fun hs => hm hs.mnemonic_mem

end Sys2Proof.Machine
end

section
/-! SUPPORT. What an instruction does to the CPU registers, said once (`execRow_registers`): each shape of an instruction in one
lemma, then the registers mnemonic by mnemonic. From it: which flags and registers an instruction changes (O55, O56). -/

namespace Sys2Proof.Machine

/-! ### The registers after each shape of an instruction -/

section Shapes
variable {r : Row} {s t : State}

theorem readInstr_registers {f : Byte → Cpu → Cpu} (h : readInstr r f s = .next t) : ∃ m, t.cpu = f m s.cpu := by
  rw [readInstr_eq] at h
  injection h with h
  exact ⟨_, by rw [← h]⟩

theorem storeInstr_registers {value : Cpu → Byte} (h : storeInstr r value s = .next t) : t.cpu = s.cpu := by
  rw [storeInstr_eq] at h
  injection h with h
  subst h
  simp

theorem impliedInstr_registers {f : Cpu → Cpu} (h : impliedInstr r f s = .next t) : t.cpu = f s.cpu := by
  rw [impliedInstr_eq] at h
  injection h with h
  rw [← h]

theorem branchInstr_registers {cond : Status → Bool} (h : branchInstr r cond s = .next t) :
    ∃ w, t.cpu = { s.cpu with pc := w } := by
  injection h with h
  subst h
  cases cond s.cpu.p
  · exact ⟨s.cpu.pc, by simp⟩
  · exact ⟨(resolve r.operand s).payload, by simp [State.setPc]⟩

/-- The registers after a read-modify-write instruction that found the byte `m` (42_shift_rotate_rmw.md, RMW). -/
def rmwRegisters (o : Operand) (f : Byte → Status → Byte × Status) (g : Byte → Cpu → Cpu) (m : Byte) (c : Cpu) : Cpu :=
  if o = .accumulator then { c with a := (f m c.p).1, p := (f m c.p).2 } else g (f m c.p).1 { c with p := (f m c.p).2 }

theorem rmwInstr_registers {f : Byte → Status → Byte × Status} {g : Byte → Cpu → Cpu} (h : rmwInstr r f g s = .next t) :
    ∃ m, t.cpu = rmwRegisters r.operand f g m s.cpu := by
  rw [rmwInstr_eq] at h
  unfold rmwRegisters
  split at h <;> injection h with h <;> subst h
  · rename_i ho
    exact ⟨s.cpu.a, by rw [if_pos ho]⟩
  · rename_i ho
    exact ⟨(busRead (resolve r.operand s).payload (resolve r.operand s).state).1, by rw [if_neg ho]⟩

end Shapes

/-! ### The registers mnemonic by mnemonic -/

/-- The registers an instruction leaves, `m` being the byte it reads or pops and `w` the address it jumps to or pops. -/
def registersAfter (r : Row) (m : Byte) (w : Word) (c : Cpu) : Cpu :=
  match r.mnemonic with
  | .lda => { c with a := m, p := setNZ m c.p }
  | .ldx => { c with x := m, p := setNZ m c.p }
  | .ldy => { c with y := m, p := setNZ m c.p }
  | .lax => { c with a := m, x := m, p := setNZ m c.p }
  | .tax => { c with x := c.a, p := setNZ c.a c.p }
  | .tay => { c with y := c.a, p := setNZ c.a c.p }
  | .txa => { c with a := c.x, p := setNZ c.x c.p }
  | .tya => { c with a := c.y, p := setNZ c.y c.p }
  | .tsx => { c with x := c.sp, p := setNZ c.sp c.p }
  | .txs => { c with sp := c.x }
  | .adc => adcCore m c
  | .sbc => sbcCore m c
  | .and => andCore m c
  | .ora => oraCore m c
  | .eor => eorCore m c
  | .bit => { c with p := bitFlags c.a m c.p }
  | .cmp => { c with p := compareFlags c.a m c.p }
  | .cpx => { c with p := compareFlags c.x m c.p }
  | .cpy => { c with p := compareFlags c.y m c.p }
  | .inc => rmwRegisters r.operand incOp (fun _ c => c) m c
  | .dec => rmwRegisters r.operand decOp (fun _ c => c) m c
  | .inx => { c with x := (incOp c.x c.p).1, p := (incOp c.x c.p).2 }
  | .iny => { c with y := (incOp c.y c.p).1, p := (incOp c.y c.p).2 }
  | .dex => { c with x := (decOp c.x c.p).1, p := (decOp c.x c.p).2 }
  | .dey => { c with y := (decOp c.y c.p).1, p := (decOp c.y c.p).2 }
  | .asl => rmwRegisters r.operand aslOp (fun _ c => c) m c
  | .lsr => rmwRegisters r.operand lsrOp (fun _ c => c) m c
  | .rol => rmwRegisters r.operand rolOp (fun _ c => c) m c
  | .ror => rmwRegisters r.operand rorOp (fun _ c => c) m c
  | .slo => rmwRegisters r.operand aslOp oraCore m c
  | .rla => rmwRegisters r.operand rolOp andCore m c
  | .sre => rmwRegisters r.operand lsrOp eorCore m c
  | .rra => rmwRegisters r.operand rorOp adcCore m c
  | .dcp => rmwRegisters r.operand decOp (fun m c => { c with p := compareFlags c.a m c.p }) m c
  | .isb => rmwRegisters r.operand incOp sbcCore m c
  | .bcc | .bcs | .beq | .bne | .bmi | .bpl | .bvc | .bvs | .jmp => { c with pc := w }
  | .jsr => { c with sp := c.sp - 1 - 1, pc := w }
  | .rts => { c with sp := c.sp + 1 + 1, pc := w }
  | .rti => { c with sp := c.sp + 1 + 1 + 1, pc := w, p := Status.unpack m }
  | .brk => { c with sp := c.sp - 1 - 1 - 1, pc := w, p := { c.p with b := true, i := true } }
  | .pha | .php => { c with sp := c.sp - 1 }
  | .pla => { c with a := m, sp := c.sp + 1, p := setNZ m c.p }
  | .plp => { c with sp := c.sp + 1, p := Status.unpack m }
  | .clc => { c with p := { c.p with c := false } }
  | .sec => { c with p := { c.p with c := true } }
  | .cli => { c with p := { c.p with i := false } }
  | .sei => { c with p := { c.p with i := true } }
  | .clv => { c with p := { c.p with v := false } }
  | .cld => { c with p := { c.p with d := false } }
  | .sed => { c with p := { c.p with d := true } }
  | .sta | .stx | .sty | .sax | .nop | .undef => c

/-- What every meaning does to the registers. -/
theorem execRow_registers {r : Row} {s t : State} (h : execRow r s = .next t) :
    ∃ m w, t.cpu = registersAfter r m w s.cpu := by
  obtain ⟨op, mn, o⟩ := r
  cases mn <;> dsimp only [execRow] at h
  case lda | ldx | ldy | lax | adc | sbc | and | ora | eor | bit | cmp | cpx | cpy =>
    obtain ⟨m, e⟩ := readInstr_registers h
    exact ⟨m, 0, e⟩
  case sta | stx | sty | sax => exact ⟨0, 0, storeInstr_registers h⟩
  case tax | tay | txa | tya | tsx | txs | inx | iny | dex | dey | clc | sec | cli | sei | clv | cld | sed =>
    exact ⟨0, 0, impliedInstr_registers h⟩
  case inc | dec | asl | lsr | rol | ror | slo | rla | sre | rra | dcp | isb =>
    obtain ⟨m, e⟩ := rmwInstr_registers h
    exact ⟨m, 0, e⟩
  case bcc | bcs | beq | bne | bmi | bpl | bvc | bvs =>
    obtain ⟨w, e⟩ := branchInstr_registers h
    exact ⟨0, w, e⟩
  all_goals
    injection h with h
    subst h
  case jmp => exact ⟨0, (resolve o s).payload, by simp [registersAfter, State.setPc]⟩
  case jsr =>
    exact ⟨0, (resolve o s).payload, by simp [registersAfter, State.setPc, pushWord, push_eq]⟩
  case rts => exact ⟨0, _, by simp only [popWord, pop_eq]; rfl⟩
  case rti => exact ⟨_, _, by simp only [returnFromInterrupt, popWord, pop_eq]; rfl⟩
  case brk => exact ⟨0, _, by rw [enterInterrupt_eq _ _ _ irqVector_prg.1 irqVector_prg.2]; rfl⟩
  case pha | php => exact ⟨0, 0, by rw [push_eq]; rfl⟩
  case pla | plp => exact ⟨_, 0, by rw [pop_eq]; rfl⟩
  case nop => exact ⟨0, 0, by simp [registersAfter]⟩
  case undef => exact ⟨0, 0, rfl⟩

/-- What every instruction does to the registers. -/
theorem exec_registers {i : Instr} {s t : State} (h : exec i s = .next t) :
    ∃ m w, t.cpu = registersAfter i.row m w s.cpu :=
  execRow_registers (exec_eq_execRow i s ▸ h)

/-! ### Which flags and registers change (O55, O56) -/

/-- Settles O55: the flags of `registersAfter`, mnemonic by mnemonic. -/
theorem flagsChangeOnlyByTheirWriters : Obligations.FlagsChangeOnlyByTheirWriters := by
  intro i s t h
  obtain ⟨m, w, e⟩ := exec_registers h
  rw [e]
  generalize i.row = r
  obtain ⟨op, mn, o⟩ := r
  cases mn
  case inc | dec | asl | lsr | rol | ror | slo | rla | sre | rra | dcp | isb =>
    by_cases ho : o = .accumulator <;>
      simp [registersAfter, rmwRegisters, ho, incOp, decOp, aslOp, lsrOp, rolOp, rorOp, oraCore, andCore, eorCore,
        adcCore, sbcCore, compareFlags]
  all_goals simp [registersAfter, adcCore, sbcCore, andCore, oraCore, eorCore, bitFlags, compareFlags, incOp, decOp]

/-- Only the shifts and rotates have an accumulator form (30_encoding.md R314). -/
theorem mnemonic_of_accumulator {i : Instr} (h : i.row.operand = .accumulator) :
    i.row.mnemonic ∈ [Mnemonic.asl, .lsr, .rol, .ror] := by
  cases i
  case aslAcc | lsrAcc | rolAcc | rorAcc => decide
  all_goals cases h

/-- Settles O56: the registers of `registersAfter`, mnemonic by mnemonic. -/
theorem registersChangeOnlyByTheirWriters : Obligations.RegistersChangeOnlyByTheirWriters := by
  intro i s t h
  obtain ⟨m, w, e⟩ := exec_registers h
  have acc := mnemonic_of_accumulator (i := i)
  rw [e]
  generalize i.row = r at acc
  obtain ⟨op, mn, o⟩ := r
  cases mn
  case inc | dec | slo | rla | sre | rra | dcp | isb =>
    have ho : o ≠ .accumulator := fun ho => by simpa using acc ho
    simp [registersAfter, rmwRegisters, ho, oraCore, andCore, eorCore, adcCore, sbcCore]
  case asl | lsr | rol | ror =>
    by_cases ho : o = .accumulator <;> simp [registersAfter, rmwRegisters, ho]
  all_goals simp [registersAfter, adcCore, sbcCore, andCore, oraCore, eorCore]

/-- No instruction takes the reserved status bit from 1 (10_state.md R104). -/
theorem exec_reserved {i : Instr} {s t : State} (h : exec i s = .next t) (hr : s.cpu.p.r = true) : t.cpu.p.r = true := by
  obtain ⟨-, -, -, -, -, -, keep, set⟩ := flagsChangeOnlyByTheirWriters i s t h
  by_cases hm : i.row.mnemonic ∈ [Mnemonic.plp, .rti]
  · exact set hm
  · rw [keep hm, hr]

end Sys2Proof.Machine
end

section
/-! SUPPORT. What a step that answers a state keeps and records: the invariant (O51), the cartridge, the live buttons and RAM
(O53), and the fault (O52). -/

namespace Sys2Proof.Machine

/-! ### The forms of a step that answers a state -/

/-- A state a step answers is the catch-up of a DMA iteration or of the CPU's part (60_exceptions.md R660). -/
theorem step_next_cases {s t : State} (h : step s = .next t) :
    (s.dma.pending = true ∧ t = catchUp (dmaIteration (takeIrqInput s))) ∨
    (s.dma.pending = false ∧ ∃ u, cpuStep (takeIrqInput s) = .next u ∧ CpuSideKept (takeIrqInput s) u ∧
      t = catchUp u) := by
  rcases step_cases s with ⟨f, -, e⟩ | ⟨-, hp, e⟩ | ⟨-, hp, u, hu, k, e⟩
  · cases e.symm.trans h
  · injection e.symm.trans h with ht
    exact .inl ⟨hp, ht.symm⟩
  · injection e.symm.trans h with ht
    exact .inr ⟨hp, u, hu, k, ht.symm⟩

/-! ### What keeps the invariant (O51) -/

/-- The lists' shape depends on the scanline and the two lists only. -/
theorem ListsOk.congr {p q : Ppu} (h : ListsOk p) (h1 : q.scanline = p.scanline) (h2 : q.bgList = p.bgList)
    (h3 : q.spriteList = p.spriteList) : ListsOk q := by
  constructor
  · rw [h1, h2]; exact h.bands
  · rw [h2]; exact h.tiles
  · rw [h3]; exact h.sprites
  · rw [h3]; exact h.order

/-- What the CPU side keeps makes the invariant, but for the reserved bit. -/
theorem CpuSideKept.inv {s t : State} (k : CpuSideKept s t) (h : s.Inv) (hr : t.cpu.p.r = true) : t.Inv where
  memories := k.memories h.memories
  lists := h.lists.congr k.scanline k.bgList k.spriteList
  dot := k.dot ▸ h.dot
  scanline := k.scanline ▸ h.scanline
  index := k.index h.index
  reserved := hr

/-- An engine change makes the invariant, but for the counters and the lists. -/
theorem EngineChange.inv {s t : State} (k : EngineChange s t) (h : s.Inv) (hl : ListsOk t.ppu) (hd : t.ppu.dot < 341)
    (hs : t.ppu.scanline < 262) : t.Inv where
  memories := h.memories.congr k.ram k.cfg k.chr k.vram k.palette k.oam
  lists := hl
  dot := hd
  scanline := hs
  index := k.pad ▸ h.index
  reserved := k.cpu ▸ h.reserved

/-- A dot keeps the invariant. -/
theorem State.Inv.tick {s : State} (h : s.Inv) : (tick s).Inv := by
  obtain ⟨ed, es⟩ := tick_counters s
  have hd := h.dot
  have hs := h.scanline
  refine (tick_change s).inv h (h.lists.tick hs) ?_ ?_
  · rw [ed]
    split <;> omega
  · rw [es]
    repeat' split
    all_goals omega

theorem State.Inv.ticks (n : Nat) {s : State} (h : s.Inv) : (ticks n s).Inv := by
  induction n generalizing s with
  | zero => exact h
  | succ n ih => exact ih h.tick

/-- The PPU's catch-up keeps the invariant. -/
theorem State.Inv.catchUp {s : State} (h : s.Inv) : (catchUp s).Inv := by
  have h0 : ({ s with frameOut := none } : State).Inv := ⟨h.memories.congr rfl rfl rfl rfl rfl rfl, h.lists, h.dot,
    h.scanline, h.index, h.reserved⟩
  unfold Machine.catchUp runPpu
  split
  · exact h0.ticks _
  · exact h0

/-- The CPU's part of an iteration keeps the reserved bit 1. -/
theorem cpuStep_reserved {s t : State} (h : cpuStep s = .next t) (hr : s.cpu.p.r = true) : t.cpu.p.r = true := by
  obtain ⟨pc, e⟩ := fetchInstr_cpu (interruptCheck s)
  obtain ⟨-, -, -, keep⟩ := interruptCheck_keeps s
  refine exec_reserved h ?_
  rw [e]
  exact keep.trans hr

/-- Settles O51: the IRQ input, the DMA iteration and the CPU's part keep it by `CpuSideKept.inv`, the catch-up dot by dot. -/
theorem stepKeepsTheInvariant : Obligations.StepKeepsTheInvariant := by
  intro s t h hs
  have hr : (takeIrqInput s).cpu.p.r = true := by
    rw [takeIrqInput_eq]
    exact h.reserved
  have h0 : (takeIrqInput s).Inv := (CpuSideKept.takeIrqInput s).inv h hr
  obtain ⟨-, e⟩ | ⟨-, u, hu, k, e⟩ := step_next_cases hs <;> rw [e]
  · have k := (dmaIteration_keeps (takeIrqInput s)).1
    exact (k.side.inv h0 (by rw [k.cpu, hr])).catchUp
  · exact (k.inv h0 (cpuStep_reserved hu hr)).catchUp

/-! ### What no step writes (O53) -/

/-- Settles O53: each part of a step keeps these, `CpuSideKept` for the CPU's side and the DMA unit, `EngineChange` for the
PPU. -/
theorem cartridgeMemoryIsNeverWritten : Obligations.CartridgeMemoryIsNeverWritten := by
  refine ⟨fun s t hs => ?_, fun s => ⟨(catchUp_change s).ram, by rw [takeIrqInput_eq]⟩, fun n s => (runPpu_change n s).ram⟩
  have parts {u : State} (k : CpuSideKept (takeIrqInput s) u) : (catchUp u).cfg = s.cfg ∧
      (s.cfg.chrIsRam = false → (catchUp u).ppu.chr = s.ppu.chr) ∧
      (catchUp u).pad.liveButtons = s.pad.liveButtons := by
    have k := (CpuSideKept.takeIrqInput s).trans k
    have c := catchUp_change u
    exact ⟨c.cfg.trans k.cfg, fun hr => c.chr.trans (k.chrRom hr), c.pad ▸ k.liveButtons⟩
  obtain ⟨hp, e⟩ | ⟨hp, u, hu, k, e⟩ := step_next_cases hs <;> rw [e]
  · have k := (dmaIteration_keeps (takeIrqInput s)).1
    have hram : (catchUp (dmaIteration (takeIrqInput s))).ram = s.ram := by
      rw [(catchUp_change _).ram, k.ram, takeIrqInput_eq]
    obtain ⟨h1, h2, h3⟩ := parts k.side
    exact ⟨h1, h2, h3, fun _ => hram, fun h => by simp [hp] at h⟩
  · obtain ⟨h1, h2, h3⟩ := parts k
    exact ⟨h1, h2, h3, fun h => by simp [hp] at h, fun _ => ⟨u, hu, (catchUp_change u).ram⟩⟩

/-! ### What the CPU's part does to the fault (O52) -/

set_option maxRecDepth 4000 in
/-- An UNDEF entry of the opcode table has no addressing mode (30_encoding.md R314). -/
theorem tableEntry_undef_mode {op : Byte} (h : (tableEntry op).1 = .undef) : (tableEntry op).2 = .none := by
  have all : ∀ n : Fin 256, (tableEntry (BitVec.ofNat 8 n)).1 = .undef → (tableEntry (BitVec.ofNat 8 n)).2 = .none := by
    decide
  simpa using all op.toFin (by simpa using h)

/-- An operand without an addressing mode has no byte. -/
theorem bytes_of_mode_none {o : Operand} (h : o.mode = .none) : o.bytes = [] := by
  cases o
  case none => rfl
  all_goals cases h

/-- What is fetched: the instruction the map makes at the byte at PC from its operand bytes, and nothing but that byte when it
has none (60_exceptions.md R602). -/
theorem fetchInstr_madeFrom (s : State) : ∃ bs, MadeFrom (fetchInstr s).1 (busRead s.cpu.pc s).1 bs ∧
    (bs = [] → (fetchInstr s).2 = (fetch8 s).2) := by
  have right : (formatOf (fetch8 s).1).Right (busRead s.cpu.pc s).1 := formatOf_right _
  unfold fetchInstr
  cases hf : formatOf (fetch8 s).1 <;> rw [hf] at right <;> simp only [hf]
  case noOperand i => exact ⟨[], right, fun _ => trivial⟩
  case byteOperand f => exact ⟨_, right _, nofun⟩
  case wordOperand f => exact ⟨_, right _, nofun⟩

/-- The instruction fetched has the mnemonic the opcode table gives the byte at PC. -/
theorem fetchInstr_mnemonic (s : State) : (fetchInstr s).1.row.mnemonic = (tableEntry (busRead s.cpu.pc s).1).1 := by
  obtain ⟨bs, ⟨-, -, entry⟩, -⟩ := fetchInstr_madeFrom s
  exact congrArg Prod.fst entry

/-- An UNDEF byte is fetched alone, as the instruction of its opcode (44_stack_status_misc.md R532). -/
theorem fetchInstr_undef {s : State} (h : (tableEntry (busRead s.cpu.pc s).1).1 = .undef) :
    (fetchInstr s).1.row.opcode = (busRead s.cpu.pc s).1 ∧ (fetchInstr s).2 = (fetch8 s).2 := by
  obtain ⟨bs, ⟨opcode, bytes, entry⟩, alone⟩ := fetchInstr_madeFrom s
  have mode : (fetchInstr s).1.row.operand.mode = .none := (congrArg Prod.snd entry).trans (tableEntry_undef_mode h)
  exact ⟨opcode, alone (bytes.symm.trans (bytes_of_mode_none mode))⟩

/-- An UNDEF instruction records its fault and does nothing else but clear the cycle count (R532). -/
theorem exec_undef {i : Instr} (h : i.row.mnemonic = .undef) (s : State) :
    exec i s = .next (raiseFault (.opcodeNotImplemented (s.cpu.pc - 1) i.row.opcode) s) := by
  rw [exec_eq_execRow, execRow, h]
  rfl

/-- Every other instruction leaves the fault as it is. -/
theorem exec_fault {i : Instr} {s t : State} (h : exec i s = .next t) (hn : i.row.mnemonic ≠ .undef) :
    t.fault = s.fault := by
  rw [exec_eq_execRow] at h
  obtain ⟨u, c, n, f, -, rfl, hf⟩ := execRow_effect h
  exact hf hn

/-- The CPU's part of an iteration records a fault exactly when the byte it fetches is an UNDEF one, and then PC is one
past it (R532). -/
theorem cpuStep_fault {s t : State} (h : cpuStep s = .next t) (hs : s.fault = none) :
    let v := interruptCheck s
    let op := (busRead v.cpu.pc v).1
    ((tableEntry op).1 ≠ .undef → t.fault = none) ∧
    ((tableEntry op).1 = .undef → t.fault = some (.opcodeNotImplemented v.cpu.pc op) ∧ t.cpu.pc = v.cpu.pc + 1) := by
  dsimp only
  rw [← fetchInstr_mnemonic]
  refine ⟨fun hn => ?_, fun hu => ?_⟩
  · obtain ⟨-, keep, -⟩ := interruptCheck_keeps s
    rw [exec_fault h hn, fetchInstr_fault, keep, hs]
  · obtain ⟨e1, e2⟩ := fetchInstr_undef (fetchInstr_mnemonic _ ▸ hu)
    rw [cpuStep, exec_undef hu, e1, e2] at h
    injection h with h
    subst h
    simp

/-- A state with a recorded fault runs no dot and answers no frame (60_exceptions.md R601). -/
theorem catchUp_of_fault {s : State} {f : Fault} (h : s.fault = some f) : catchUp s = { s with frameOut := none } := by
  unfold catchUp
  rw [h]

/-- Settles O52: `step_cases` gives the forms of a step, and `cpuStep_fault` says when the CPU's part records a fault. -/
theorem onlyARecordedFaultStopsAStep : Obligations.OnlyARecordedFaultStopsAStep := by
  intro s
  refine ⟨fun f hf => by simp [step, hf], fun hs => ?_⟩
  have hi : (takeIrqInput s).fault = none := by rw [takeIrqInput_eq, hs]
  dsimp only
  rcases step_cases s with ⟨f, hf, -⟩ | ⟨-, hp, e⟩ | ⟨-, hp, u, hu, k, e⟩
  · simp [hs] at hf
  · have noFault : (catchUp (dmaIteration (takeIrqInput s))).fault = none := by
      rw [(catchUp_change _).fault, (dmaIteration_keeps _).1.fault, hi]
    exact ⟨_, e, by simp [noFault, hp], by simp [noFault]⟩
  · obtain ⟨other, undef⟩ := cpuStep_fault hu hi
    generalize interruptCheck (takeIrqInput s) = v at other undef ⊢
    refine ⟨_, e, ?_⟩
    by_cases ho : (tableEntry (busRead v.cpu.pc v).1).1 = .undef
    · obtain ⟨hf, hpc⟩ := undef ho
      have k := (CpuSideKept.takeIrqInput s).trans k
      rw [catchUp_of_fault hf]
      refine ⟨by simp [hf, hp, ho], fun f h => ⟨Option.some.inj (h.symm.trans hf), hpc, ?_, rfl⟩⟩
      simp only [Ppu.position, k.dot, k.scanline]
    · have noFault : (catchUp u).fault = none := by rw [(catchUp_change u).fault, other ho]
      exact ⟨by simp [noFault, ho], by simp [noFault]⟩

end Sys2Proof.Machine
end

section
/-! SUPPORT. The state after reset and power-on: the closed forms, the invariant and the cartridge's images (O48, O49, O50). -/

namespace Sys2Proof

/-- An image of bytes is canonical. -/
theorem Memory.ofBytes_wf {bs : List Byte} : (Memory.ofBytes bs).wf := (Memory.ofBytesFrom_wf bs 0).1

/-- An image of bytes fits a store of that many. -/
theorem Memory.ofBytes_below {bs : List Byte} {n : Nat} (h : bs.length ≤ n) : (Memory.ofBytes bs).below n := by
  intro c hc
  have := (Memory.ofBytesFrom_wf bs 0).2 c hc
  omega

/-- An image of bytes holds them. -/
theorem Memory.read_ofBytes (bs : List Byte) (a : Nat) : (Memory.ofBytes bs).read a = bs.getD a 0 := by
  rw [Memory.ofBytes, Memory.read_ofBytesFrom, if_pos (Nat.zero_le a), Nat.sub_zero]

end Sys2Proof

namespace Sys2Proof.Machine

/-- The reset sequence leaves the invariant on a PRG image and a CHR memory in their stores. -/
theorem resetSequence_inv {cfg : Config} {chr : Memory} (hp : cfg.prg.wf) (hb : cfg.prg.below cfg.prgSize.bytes)
    (hc : chr.wf) (hd : chr.below 8192) : (resetSequence cfg chr).Inv := by
  rw [resetSequence_eq]
  exact {
    memories := ⟨⟨Memory.nil_wf, Memory.nil_below _⟩, ⟨hp, hb⟩, ⟨hc, hd⟩, ⟨Memory.nil_wf, Memory.nil_below _⟩,
      ⟨Memory.nil_wf, Memory.nil_below _⟩, ⟨Memory.nil_wf, Memory.nil_below _⟩, by simp [resetPpu]⟩
    lists := ⟨by simp [resetPpu, bandsBuilt], by simp [bandTile, patternAt], by simp [resetPpu], List.Pairwise.nil⟩
    dot := by simp [resetPpu]
    scanline := by simp [resetPpu]
    index := by simp [State.reset]
    reserved := rfl }

/-- Settles O49: the closed form of the reset sequence on zeroed memories, and `resetSequence_inv`. -/
theorem resetStateSatisfiesTheInvariant : Obligations.ResetStateSatisfiesTheInvariant := by
  have e : State.reset = resetSequence Config.default [] := by
    have tile : bandTile Config.default (resetPpu []) 0 = fun _ => BgTile.blank := funext (bandTile_blank _ 0)
    rw [resetSequence_eq, tile, List.map_const', List.length_range]
    rfl
  refine ⟨e, ?_⟩
  rw [e]
  exact resetSequence_inv Memory.nil_wf (Memory.nil_below _) Memory.nil_wf (Memory.nil_below _)

/-- A well-formed cartridge's PRG image has the size its configuration says (92_eei_decisions.md D2). -/
theorem install_prgSize {c : Cartridge} (h : c.wellFormed = true) (params : Config) :
    (Cartridge.install c params).prgSize.bytes = c.prg.length := by
  simp only [Cartridge.wellFormed, Bool.and_eq_true, Bool.or_eq_true, beq_iff_eq] at h
  simp only [Cartridge.install]
  obtain ⟨hp | hp, -⟩ := h <;> simp [hp, PrgSize.bytes]

/-- Settles O50: power-on is the reset sequence on the installed configuration and the image of CHR. -/
theorem powerOnInstallsTheCartridge : Obligations.PowerOnInstallsTheCartridge := by
  intro c params
  refine ⟨fun h => ⟨_, by simp only [powerOn, h]; rfl, ?_⟩, fun h => by simp [powerOn, h]⟩
  have size := install_prgSize h params
  refine ⟨resetSequence_inv Memory.ofBytes_wf (Memory.ofBytes_below (Nat.le_of_eq size.symm)) Memory.ofBytes_wf
    (Memory.ofBytes_below (List.length_take_le _ _)), ?_⟩
  rw [resetSequence_eq]
  refine ⟨size, fun k _ => Memory.read_ofBytes c.prg k, rfl, fun k hk => ?_, rfl⟩
  refine (Memory.read_ofBytes (c.chr.take 8192) k).trans ?_
  simp [List.getD_eq_getElem?_getD, hk]

/-- The reset input in closed form (70_reset_and_hazards.md R700, R702). -/
theorem doReset_eq (s : State) : doReset s = { State.reset with
    cfg := s.cfg
    cpu := { State.reset.cpu with pc := vectorWord s.cfg resetVector }
    ppu := { resetPpu (if s.cfg.chrIsRam then [] else s.ppu.chr) with
      bgList := (List.range 33).map (bandTile s.cfg (resetPpu (if s.cfg.chrIsRam then [] else s.ppu.chr)) 0) }
    irqInput := s.irqInput } := by
  rw [doReset, resetSequence_eq]

/-- Settles O48: field by field from the closed form of the reset input. -/
theorem resetValues : Obligations.ResetValues := by
  intro s
  dsimp only
  rw [doReset_eq]
  refine ⟨rfl, rfl, rfl, rfl, rfl, ?pack, rfl, rfl, rfl, rfl, ?bytes, ?chr, rfl, rfl, rfl, rfl, rfl, rfl, rfl, rfl, rfl, rfl,
    rfl, rfl, ?band, rfl, rfl, rfl, rfl⟩
  case pack => exact show State.reset.cpu.p.pack = 0x34 from by decide
  case bytes =>
    intro q hq
    cases q with
    | chr i => exact absurd rfl (hq i)
    | ram | vram | palette | oam => rfl
  case chr =>
    intro i
    dsimp only [resetPpu]
    split <;> rfl
  case band => rw [bandTile_congr (p := resetPpu _)] <;> rfl

end Sys2Proof.Machine
end

section
/-! SUPPORT. The four stack instructions (O19) and the layout of the status byte (O26). -/

namespace Sys2Proof.Machine

/-- Settles O19: the closed forms of the stack accesses. -/
theorem stackPushesAndPulls : Obligations.StackPushesAndPulls := by
  intro s
  simp only [List.forall_mem_singleton]
  refine ⟨fun v => push_eq v s, pop_eq s, ⟨⟨rfl, rfl, rfl⟩, ?_⟩, ⟨⟨rfl, rfl, rfl⟩, ?_⟩, ⟨⟨rfl, rfl, rfl⟩, ?_⟩,
    ⟨rfl, rfl, rfl⟩, ?_⟩
  · show Host.Outcome.next (finish _ false false (push s.cpu.a s)) = _
    rw [push_eq]
    rfl
  · show Host.Outcome.next (finish _ false false (push s.cpu.p.pack s)) = _
    rw [push_eq]
    rfl
  · show opPla _ s = _
    rw [opPla, pop_eq]
    rfl
  · show opPlp _ s = _
    rw [opPlp, pop_eq]
    rfl

/-- A word read from the CPU bus leaves the registers (20_memory.md R201). -/
theorem readWord_cpu (a : Word) (s : State) : (readWord a s).2.cpu = s.cpu := by
  simp [readWord]

/-- The status after the interrupt entry, through any vector (60_exceptions.md R603). -/
theorem enterInterrupt_p (b : Bool) (vector : Word) (s : State) :
    (enterInterrupt b vector s).cpu.p = { s.cpu.p with b := b, i := true } := by
  simp [enterInterrupt, readWord_cpu, pushWord, push_eq]

/-- A packed status has its reserved bit 1 (10_state.md R104). -/
theorem pack_reserved (p : Status) : p.pack.getLsbD 5 = true := by
  unfold Status.pack
  simp only [BitVec.getLsbD_append]
  rfl

/-- Settles O26: the bits of a packed status are what unpacking reads back; no instruction takes the reserved bit from 1. -/
theorem statusByteLayout : Obligations.StatusByteLayout := by
  refine ⟨fun p => ?_, fun b => rfl, rfl, fun i s t hr h => exec_reserved h hr, rfl, fun vector s => ?_,
    fun s => ⟨_, rfl, ?_⟩, fun s => ⟨_, rfl, ?_⟩⟩
  · have e := unpack_pack p
    exact ⟨congrArg Status.n e, congrArg Status.v e, pack_reserved p, congrArg Status.b e,
      congrArg Status.d e, congrArg Status.i e, congrArg Status.z e, congrArg Status.c e, e⟩
  · rw [dispatch, enterInterrupt_p]
  · rw [finish_cpu, enterInterrupt_p]
  · rw [finish_ram, push_eq]

end Sys2Proof.Machine
end

section
/-! SUPPORT. The two maps of the CPU bus (O31, O32): what each range of addresses selects, and the bus access it makes; from
them the mirrors (O33) and the read side effects (O34). -/

namespace Sys2Proof.Machine

/-! ### What each range of addresses selects -/

section Targets
variable (cfg : Config) {a : Word}

/-- RAM is mirrored every 2 KiB (20_memory.md R206). -/
theorem busTarget_ram (h : a.toNat ≤ 0x1FFF) : busTarget cfg a = .ram (a.toNat % 0x800) := if_pos h

/-- The PPU window is mirrored every 8 bytes (R208). -/
theorem busTarget_window (h : 0x2000 ≤ a.toNat) (h' : a.toNat ≤ 0x3FFF) :
    busTarget cfg a = .ppuReg (.ofIndex (a.toNat % 8)) :=
  (if_neg (by omega)).trans (if_pos h')

theorem busTarget_oamDma (h : a.toNat = 0x4014) : busTarget cfg a = .oamDma := by
  simp [busTarget, h]

theorem busTarget_controller (h : a.toNat = 0x4016) : busTarget cfg a = .controller := by
  simp [busTarget, h]

theorem busTarget_unmapped (h : 0x4000 ≤ a.toNat) (h' : a.toNat ≤ 0x7FFF) (hd : a.toNat ≠ 0x4014)
    (hc : a.toNat ≠ 0x4016) : busTarget cfg a = .unmapped := by
  unfold busTarget
  simp only
  rw [if_neg (by omega), if_neg (by omega), if_neg hd, if_neg hc, if_pos h']

theorem busTarget_prg (h : 0x8000 ≤ a.toNat) : busTarget cfg a = .prg ((a.toNat - 0x8000) % cfg.prgSize.bytes) := by
  unfold busTarget
  simp only
  rw [if_neg (by omega), if_neg (by omega), if_neg (by omega), if_neg (by omega), if_neg (by omega)]

end Targets

/-! ### The access of each range (20_memory.md R204, R205) -/

section Accesses
variable {a : Word} (v : Byte) (s : State)

theorem busRead_workRam (h : a.toNat ≤ 0x1FFF) : busRead a s = (s.ram.read (a.toNat % 0x800), s) := by
  simp only [busRead, busTarget_ram _ h]

theorem busWrite_workRam (h : a.toNat ≤ 0x1FFF) :
    busWrite a v s = { s with ram := s.ram.write (a.toNat % 0x800) v } := by
  simp only [busWrite, busTarget_ram _ h]

theorem busRead_window (h : 0x2000 ≤ a.toNat) (h' : a.toNat ≤ 0x3FFF) : busRead a s =
    ((ppuRegRead s.cfg (.ofIndex (a.toNat % 8)) s.ppu).1,
      { s with ppu := (ppuRegRead s.cfg (.ofIndex (a.toNat % 8)) s.ppu).2 }) := by
  simp only [busRead, busTarget_window _ h h']

theorem busWrite_window (h : 0x2000 ≤ a.toNat) (h' : a.toNat ≤ 0x3FFF) :
    busWrite a v s = { s with ppu := ppuRegWrite s.cfg (.ofIndex (a.toNat % 8)) v s.ppu } := by
  simp only [busWrite, busTarget_window _ h h']

theorem busRead_controller (h : a.toNat = 0x4016) : busRead a s = (s.pad.read.1, { s with pad := s.pad.read.2 }) := by
  simp only [busRead, busTarget_controller _ h]

theorem busWrite_controller (h : a.toNat = 0x4016) : busWrite a v s = { s with pad := s.pad.write v } := by
  simp only [busWrite, busTarget_controller _ h]

theorem busWrite_oamDma (h : a.toNat = 0x4014) : busWrite a v s = { s with dma := { page := v, pending := true } } := by
  simp only [busWrite, busTarget_oamDma _ h, dmaArm]

/-- The DMA register has no value to read (R204). -/
theorem busRead_zero (h : 0x4000 ≤ a.toNat) (h' : a.toNat ≤ 0x7FFF) (hc : a.toNat ≠ 0x4016) : busRead a s = (0, s) := by
  by_cases hd : a.toNat = 0x4014
  · simp only [busRead, busTarget_oamDma _ hd]
  · simp only [busRead, busTarget_unmapped _ h h' hd hc]

theorem busWrite_noEffect (h : 0x4000 ≤ a.toNat) (hd : a.toNat ≠ 0x4014) (hc : a.toNat ≠ 0x4016) :
    busWrite a v s = s := by
  by_cases h' : a.toNat ≤ 0x7FFF
  · simp only [busWrite, busTarget_unmapped _ h h' hd hc]
  · simp only [busWrite, busTarget_prg _ (Nat.lt_of_not_le h')]

end Accesses

/-- The mask of 2 KiB, for RAM mirrors (20_memory.md R206) and the VRAM, is a remainder. -/
theorem ramMask (n : Nat) : n &&& 0x07FF = n % 0x800 := Nat.and_two_pow_sub_one_eq_mod n 11

/-- So is the one of a mirror of the PPU window (R208). -/
theorem registerMask (n : Nat) : n &&& 7 = n % 8 := Nat.and_two_pow_sub_one_eq_mod n 3

/-- Settles O31: the read of each range, with the masks as remainders. -/
theorem cpuBusReadMap : Obligations.CpuBusReadMap := by
  intro a s
  dsimp only
  rw [ramMask, registerMask]
  exact ⟨busRead_workRam s, busRead_window s, busRead_controller s, busRead_zero s, busRead_prg a s⟩

/-- Settles O32: the write of each range, with the masks as remainders. -/
theorem cpuBusWriteMap : Obligations.CpuBusWriteMap := by
  intro a v s
  dsimp only
  rw [ramMask, registerMask]
  exact ⟨busWrite_workRam v s, busWrite_window v s, busWrite_oamDma v s, busWrite_controller v s, busWrite_noEffect v s⟩

/-! ### Mirrors (O33) -/

section Mirrors
variable (cfg : Config) {a b : Word} {s : State}

/-- A bus access depends on the address by what it selects only. -/
theorem busRead_congr (h : busTarget s.cfg a = busTarget s.cfg b) : busRead a s = busRead b s := by
  simp only [busRead, h]

theorem busWrite_congr (h : busTarget s.cfg a = busTarget s.cfg b) (v : Byte) : busWrite a v s = busWrite b v s := by
  simp only [busWrite, h]

theorem toNat_ofNat_word {n : Nat} (h : n < 0x10000) : (BitVec.ofNat 16 n).toNat = n := Nat.mod_eq_of_lt h

theorem busTarget_ramMirror {a k : Nat} (ha : a < 0x800) (hk : k ≤ 3) :
    busTarget cfg (BitVec.ofNat 16 (a + 0x800 * k)) = .ram a := by
  have e := toNat_ofNat_word (n := a + 0x800 * k) (by omega)
  rw [busTarget_ram cfg (by omega), e, Nat.add_mul_mod_self_left, Nat.mod_eq_of_lt ha]

theorem busTarget_windowMirror {a k : Nat} (ha : 0x2000 ≤ a) (hk : a + 8 * k < 0x4000) :
    busTarget cfg (BitVec.ofNat 16 (a + 8 * k)) = busTarget cfg (BitVec.ofNat 16 a) := by
  have e := toNat_ofNat_word (n := a + 8 * k) (by omega)
  have e0 := toNat_ofNat_word (n := a) (by omega)
  rw [busTarget_window cfg (by omega) (by omega), busTarget_window cfg (by omega) (by omega), e, e0,
    Nat.add_mul_mod_self_left]

/-- A 16 KiB image is seen twice (20_memory.md R207). -/
theorem busTarget_prgMirror (h : cfg.prgSize = .kib16) {n : Nat} (hn : 0x8000 ≤ n) (hn' : n < 0xC000) :
    busTarget cfg (BitVec.ofNat 16 (n + 0x4000)) = busTarget cfg (BitVec.ofNat 16 n) := by
  have e := toNat_ofNat_word (n := n + 0x4000) (by omega)
  have e0 := toNat_ofNat_word (n := n) (by omega)
  have mod : (n + 0x4000 - 0x8000) % 16384 = (n - 0x8000) % 16384 := by omega
  rw [busTarget_prg cfg (by omega), busTarget_prg cfg (by omega), e, e0, h, PrgSize.bytes, mod]

end Mirrors

/-- Settles O33: a mirror selects what its base address selects. -/
theorem mirrorsReachTheSamePlace : Obligations.MirrorsReachTheSamePlace := by
  intro s v
  refine ⟨fun a k ha hk => ?ram, fun a k ha _ hk => ?window, fun a ha ha' => ?prg⟩
  case ram =>
    have mirror : ∀ cfg, busTarget cfg (BitVec.ofNat 16 (a + 0x800 * k)) = .ram a :=
      fun cfg => busTarget_ramMirror cfg ha hk
    have base : ∀ cfg, busTarget cfg (BitVec.ofNat 16 a) = .ram a :=
      fun cfg => busTarget_ramMirror cfg ha (Nat.zero_le 3)
    simp only [busRead, busWrite, mirror, base, true_and]
    exact fun hr => ⟨Memory.read_write_same hr a v, Memory.read_write_same hr a v⟩
  case window =>
    have mirror := busTarget_windowMirror s.cfg ha hk
    exact ⟨busRead_congr mirror, busWrite_congr mirror v⟩
  case prg =>
    have e := toNat_ofNat_word ha'
    refine ⟨busWrite_noEffect v s (by omega) (by omega) (by omega), fun h => ?_, fun h => ?_,
      fun h h' => busRead_congr (busTarget_prgMirror _ h ha h')⟩
    · rw [busRead_prg _ s (by omega), e, h, PrgSize.bytes, Nat.mod_eq_of_lt (by omega)]
    · rw [busRead_prg _ s (by omega), e, h, PrgSize.bytes]
      exact congrArg (fun i => (s.cfg.prg.read i, s)) (Nat.and_two_pow_sub_one_eq_mod _ 14).symm

/-! ### The side effects of a read (O34) -/

/-- Only the registers at 2 and 7 of the window change the PPU when they are read (60_exceptions.md R620). -/
theorem ppuRegRead_ofIndex_state (cfg : Config) {n : Nat} (hn : n < 8) (h2 : n ≠ 2) (h7 : n ≠ 7) (p : Ppu) :
    (ppuRegRead cfg (.ofIndex n) p).2 = p := by
  match n with
  | 0 | 1 | 3 | 4 | 5 | 6 => rfl
  | 2 => exact absurd rfl h2
  | 7 => exact absurd rfl h7

theorem dataRead_state (cfg : Config) (p : Ppu) :
    ∃ rb va, (dataRead cfg p).2 = { p with readBuffer := rb, vramAddr := va } := by
  unfold dataRead
  dsimp only
  split <;> exact ⟨_, _, rfl⟩

theorem controllerRead_state (c : Controller) : ∃ k, c.read.2 = { c with index := k } := by
  unfold Controller.read
  split <;> exact ⟨_, rfl⟩

/-- Settles O34: the read of each range, and in the window the three kinds of register. -/
theorem onlyThreeRegistersHaveReadSideEffects : Obligations.OnlyThreeRegistersHaveReadSideEffects := by
  intro a s
  refine ⟨fun hn2 hn7 hn => ?pure, fun ⟨h, h'⟩ h2 => ?status, fun ⟨h, h'⟩ h7 => ?data, fun h => ?controller⟩
  case pure =>
    obtain hr | ⟨hw, hw'⟩ | ⟨hz, hz'⟩ | hp : a.toNat ≤ 0x1FFF ∨ (0x2000 ≤ a.toNat ∧ a.toNat ≤ 0x3FFF) ∨
        (0x4000 ≤ a.toNat ∧ a.toNat ≤ 0x7FFF) ∨ 0x8000 ≤ a.toNat := by omega
    · rw [busRead_workRam s hr]
    · rw [busRead_window s hw hw', ppuRegRead_ofIndex_state s.cfg (Nat.mod_lt _ (by decide))
        (fun h2 => hn2 ⟨⟨hw, hw'⟩, h2⟩) (fun h7 => hn7 ⟨⟨hw, hw'⟩, h7⟩)]
    · rw [busRead_zero s hz hz' hn]
    · rw [busRead_prg a s hp]
  case status =>
    rw [busRead_window s h h', h2]
    rfl
  case data =>
    obtain ⟨rb, va, e⟩ := dataRead_state s.cfg s.ppu
    rw [busRead_window s h h', h7]
    exact ⟨rb, va, congrArg (fun p => { s with ppu := p }) e⟩
  case controller =>
    obtain ⟨k, e⟩ := controllerRead_state s.pad
    exact ⟨k, by rw [busRead_controller s h, e]⟩

end Sys2Proof.Machine
end

section
/-! SUPPORT. The byte a write stores: what stands at its place afterwards, on the CPU bus (O35) and on the PPU bus (O36); the
nametable map (O37) and the palette (O38). -/

namespace Sys2Proof.Machine

/-! ### The place of a write holds the written byte -/

section Stored
variable {s : State} {q : Place}

/-- A PPU-bus write stores its byte at its place (20_memory.md R221, R223). -/
theorem byteAt_ppuWrite_same {e : Nat} (hc : s.ppu.chr.wf) (hv : s.ppu.vram.wf) (hp : s.ppu.palette.wf)
    (h : ppuStoredPlace s.cfg e = some q) (v : Byte) :
    ({ s with ppu := ppuWrite s.cfg s.ppu e v } : State).byteAt q = v := by
  unfold ppuStoredPlace at h
  unfold ppuWrite
  split at h
  · split at h <;> cases h
    rw [if_pos ‹_›, if_pos ‹_›]
    exact Memory.read_write_same hc _ v
  · split at h <;> cases h
    · rw [if_neg ‹_›, if_pos ‹_›]
      exact Memory.read_write_same hv _ v
    · rw [if_neg ‹_›, if_neg ‹_›]
      exact Memory.read_write_same hp _ v

/-- A bus write stores its byte at its place (R205). -/
theorem byteAt_busWrite_same {a : Word} (hm : MemoriesOk s) (h : storedPlace a s = some q) (v : Byte) :
    (busWrite a v s).byteAt q = v := by
  unfold storedPlace at h
  unfold busWrite
  split at h
  case h_1 i ht =>
    cases h
    rw [ht]
    exact Memory.read_write_same hm.ram.1 i v
  case h_2 ht =>
    cases h
    rw [ht]
    exact Memory.read_write_same hm.oam.1 _ v
  case h_3 ht =>
    have e := byteAt_ppuWrite_same hm.chr.1 hm.vram.1 hm.palette.1 h v
    rw [ht]
    cases q <;> exact e
  case h_4 => cases h

end Stored

/-- Settles O35: the place of a write holds its byte (`byteAt_busWrite_same`), every other byte is as before. -/
theorem busWriteChangesOneByte : Obligations.BusWriteChangesOneByte := by
  intro a v s hm q
  refine ⟨?_, busRead_byteAt s q a⟩
  split
  · exact byteAt_busWrite_same hm ‹_› v
  · exact byteAt_busWrite_of_ne ‹_› v

/-- A PPU-bus read answers the byte at its place (20_memory.md R220, R224). -/
theorem ppuRead_eq_byteAt (s : State) (e : Nat) : ppuRead s.cfg s.ppu e = s.byteAt (ppuReadPlace s.cfg e) := by
  unfold ppuRead ppuReadPlace paletteRead
  repeat' split
  all_goals rfl

/-- A read after a write answers the byte at its place, which the write changed exactly when it is the write's own place. -/
theorem ppuRead_ppuWrite (s : State) (e1 e2 : Nat) (v : Byte) (hc : s.ppu.chr.wf) (hv : s.ppu.vram.wf)
    (hp : s.ppu.palette.wf) : ppuRead s.cfg (ppuWrite s.cfg s.ppu e1 v) e2 =
      if ppuStoredPlace s.cfg e1 = some (ppuReadPlace s.cfg e2) then v else ppuRead s.cfg s.ppu e2 := by
  have after := ppuRead_eq_byteAt { s with ppu := ppuWrite s.cfg s.ppu e1 v } e2
  refine after.trans ?_
  split
  · exact byteAt_ppuWrite_same hc hv hp ‹_› v
  · rw [byteAt_ppuWrite_of_ne ‹_› v, ← ppuRead_eq_byteAt]

/-- Settles O36: `ppuRead_ppuWrite` in a state with this configuration and PPU. -/
theorem ppuBusReadsTheLatestWrite : Obligations.PpuBusReadsTheLatestWrite :=
  fun cfg p e1 e2 v _ _ => ppuRead_ppuWrite { State.reset with cfg := cfg, ppu := p } e1 e2 v

/-! ### The nametable map (O37) -/

/-- Settles O37: bits 0 to 9 are the offset in a table, bits 10 and 11 its number. -/
theorem nametableMirroring : Obligations.NametableMirroring := by
  intro o ho
  refine ⟨?horizontal, ?vertical, ntMap_lt _ o, ntMap_lt _ o⟩
  case horizontal =>
    have low : o &&& 0x03FF = o % 2 ^ 10 := Nat.and_two_pow_sub_one_eq_mod o 10
    have bank : (o &&& 0x0800) >>> 1 = 2 ^ 10 * (o / 0x800) := by
      have bit : o &&& 0x0800 = (o / 2 ^ 11) % 2 * 2 ^ 11 := by
        rw [show (0x0800 : Nat) = 2 ^ 11 from rfl, Nat.and_two_pow, Nat.toNat_testBit]
      rw [bit, Nat.shiftRight_eq_div_pow]
      omega
    rw [ntMap, low, bank, Nat.or_comm, ← Nat.two_pow_add_eq_or_of_lt (Nat.mod_lt o (Nat.two_pow_pos 10))]
    omega
  case vertical =>
    rw [ntMap, ramMask]
    omega

/-! ### The palette (O38) -/

theorem isPaletteMirror_iff (i : Nat) : isPaletteMirror i = true ↔ i ∈ ([0x10, 0x14, 0x18, 0x1C] : List Nat) := by
  simp [isPaletteMirror, or_assoc]

/-- A write of $3F10 stores at palette index $00 (20_memory.md R223). -/
theorem ppuWrite_3F10 (cfg : Config) (p : Ppu) (v : Byte) :
    ppuWrite cfg p 0x3F10 v = { p with palette := p.palette.write 0x00 v } := rfl

/-- Palette indexes $00 and $10 read one byte, with or without the collapse (R224). -/
theorem paletteRead_00_10 (cfg : Config) (p : Ppu) :
    paletteRead cfg p 0x00 = p.palette.read 0x00 ∧ paletteRead cfg p 0x10 = p.palette.read 0x00 := by
  refine ⟨?_, rfl⟩
  simp [paletteRead, isPaletteMirror]

/-- Settles O38: the four mirrors are folded by writes and by reads; $3F10 is $3F00. -/
theorem paletteFoldAndReadView : Obligations.PaletteFoldAndReadView := by
  intro cfg p i v _
  rw [← isPaletteMirror_iff]
  refine ⟨fun h => ⟨?_, ?_⟩, fun h => ⟨?_, ?_⟩, fun hp => ?_⟩
  · simp only [paletteWrite, h, if_true]
  · simp only [paletteRead, h, if_true]
  · simp only [paletteWrite, h, Bool.false_eq_true, if_false]
  · simp [paletteRead, h, or_assoc]
  · rw [ppuWrite_3F10, (paletteRead_00_10 cfg _).1, (paletteRead_00_10 cfg _).2, and_self]
    exact Memory.read_write_same hp 0 v

end Sys2Proof.Machine
end

section
/-! SUPPORT. What an instruction leaves outside the CPU registers and the memories (O58): the NMI line, and what only a bus
write changes. -/

namespace Sys2Proof.Machine

/-- What only a bus write changes among the registers behind the bus: the DMA register, control, mask, OAM cursor and scroll
of the PPU, the snapshot and the strobe of the controller. -/
def State.writeOnly (s : State) : Dma × Byte × Byte × Byte × Byte × Byte × Byte × Bool :=
  (s.dma, s.ppu.ctrl, s.ppu.mask, s.ppu.oamAddr, s.ppu.scrollX, s.ppu.scrollY, s.pad.snapshot, s.pad.strobe)

section WriteOnly
variable (s : State)

@[simp] theorem busRead_writeOnly (a : Word) : (busRead a s).2.writeOnly = s.writeOnly := by
  rcases busRead_state a s with ⟨_, _, _, _, h⟩ | h
  · rw [h]
    rfl
  · obtain ⟨k, e⟩ := controllerRead_state s.pad
    rw [h, e]
    rfl

@[simp] theorem resolve_writeOnly (o : Operand) : (resolve o s).state.writeOnly = s.writeOnly := by
  cases o
  case ind w => exact (busRead_writeOnly _ _).trans (busRead_writeOnly s w)
  all_goals rw [resolve_state _ s (by simp)]

@[simp] theorem readOperand_writeOnly (o : Operand) : (readOperand o s).2.2.writeOnly = s.writeOnly := by
  rcases readOperand_state o s with h | h <;> simp [h]

variable {s}

/-- A push stores in work RAM, so only the stores and the read-modify-write instructions change these. -/
theorem Effect.writeOnly_eq {r : Row} {u : State} (h : Effect r s u)
    (hn : r.mnemonic ∉ storeMnemonics ++ rmwMnemonics) : u.writeOnly = s.writeOnly := by
  cases h with
  | read => exact readOperand_writeOnly s _
  | resolved | push2 => exact resolve_writeOnly s _
  | store _ hm => exact absurd (List.mem_append_left _ hm) hn
  | readWrite _ hm => exact absurd (List.mem_append_right _ hm) hn
  | same | push1 | push3 => rfl

/-- The NMI line is the PPU's and the interrupt check's: no instruction reaches it (60_exceptions.md R604). -/
theorem Effect.nmiLine_eq {r : Row} {u : State} (h : Effect r s u) : u.nmiLine = s.nmiLine := by
  cases h <;> simp

end WriteOnly

/-- Settles O58: an instruction's effect keeps these (`CpuSideKept.exec`, `exec_irq`, `exec_fault`, `Effect.nmiLine_eq`), and
without a bus write what only a write changes (`Effect.writeOnly_eq`). -/
theorem instructionsLeaveTheOtherUnits : Obligations.InstructionsLeaveTheOtherUnits := by
  intro i s t h
  have k := CpuSideKept.exec h
  obtain ⟨irqLine, irqInput⟩ := exec_irq h
  have fault := exec_fault h
  rw [exec_eq_execRow] at h
  obtain ⟨u, c, n, f, hu, rfl, -⟩ := execRow_effect h
  refine ⟨k.cfg, hu.nmiLine_eq, irqLine, irqInput, k.frameOut, fault, k.dot, k.scanline, k.bgList, k.spriteList,
    k.sprite0Hit, k.liveButtons, fun hn => ?_⟩
  simpa only [State.writeOnly, Prod.mk.injEq] using hu.writeOnly_eq hn

end Sys2Proof.Machine
end

section
/-! SUPPORT. The decoder said once: what the entry of the opcode byte makes of the bytes after it (`makes_of_decode`,
`decode_of_enough`, `decode_of_short`). From it: decoding and encoding undo each other (O1, O2), and the opcode's mode fixes
the length (O3). -/

namespace Sys2Proof

/-! ### What a map entry makes -/

/-- The map entry makes this instruction of these operand bytes. -/
inductive Format.Makes : Format → Instr → List Byte → Prop
  | noOperand (i : Instr) : Makes (.noOperand i) i []
  | byteOperand (f : Byte → Instr) (b : Byte) : Makes (.byteOperand f) (f b) [b]
  | wordOperand (f : Word → Instr) (w : Word) : Makes (.wordOperand f) (f w) [loByte w, hiByte w]

/-- How many operand bytes a map entry takes. -/
def Format.operandCount : Format → Nat
  | .noOperand _ => 0
  | .byteOperand _ => 1
  | .wordOperand _ => 2

/-- With enough bytes the entry makes an instruction of the first of them. -/
theorem Format.exists_makes {f : Format} {bs : List Byte} (h : f.operandCount ≤ bs.length) :
    ∃ i, f.Makes i (bs.take f.operandCount) := by
  match f, bs, h with
  | .noOperand i, _, _ => exact ⟨i, .noOperand i⟩
  | .byteOperand f, b :: _, _ => exact ⟨f b, .byteOperand f b⟩
  | .wordOperand f, lo :: hi :: _, _ => exact
    ⟨f (joinBytes hi lo), by simpa [operandCount] using Makes.wordOperand f (joinBytes hi lo)⟩

section Decoder
variable {op : Byte} {bs rest ops : List Byte} {i : Instr}

/-- What the entry of `op` makes has the opcode, the operand bytes, and the table's mnemonic and mode (`formatOf_right`). -/
theorem madeFrom_of_makes (h : (formatOf op).Makes i ops) : MadeFrom i op ops := by
  have right := formatOf_right op
  generalize formatOf op = f at h right
  cases h with
  | noOperand => exact right
  | byteOperand _ b => exact right b
  | wordOperand _ w => exact right w

/-! ### The decoder -/

theorem decode_of_makes (h : (formatOf op).Makes i ops) : decode (op :: (ops ++ rest)) = .ok (i, rest) := by
  dsimp only [decode]
  generalize formatOf op = f at h ⊢
  cases h <;> simp

/-- Too few bytes after the opcode are rejected by name. -/
theorem decode_of_short (h : bs.length < (formatOf op).operandCount) :
    decode (op :: bs) = .error (.missingOperand op) := by
  dsimp only [decode]
  generalize formatOf op = f at h ⊢
  match f, bs, h with
  | .byteOperand _, [], _ => rfl
  | .wordOperand _, [], _ => rfl
  | .wordOperand _, [_], _ => rfl

/-- With enough bytes the decoder answers what the entry makes of the first of them, and leaves the others. -/
theorem decode_of_enough (h : (formatOf op).operandCount ≤ bs.length) :
    ∃ i, (formatOf op).Makes i (bs.take (formatOf op).operandCount) ∧
      decode (op :: bs) = .ok (i, bs.drop (formatOf op).operandCount) := by
  obtain ⟨i, hi⟩ := Format.exists_makes h
  have answer := decode_of_makes (rest := bs.drop (formatOf op).operandCount) hi
  rw [List.take_append_drop] at answer
  exact ⟨i, hi, answer⟩

/-- The decoder answers only what the entry of the first byte makes of the bytes after it (30_encoding.md R300). -/
theorem makes_of_decode (h : decode bs = .ok (i, rest)) :
    ∃ op ops, bs = op :: (ops ++ rest) ∧ (formatOf op).Makes i ops := by
  cases bs with
  | nil => cases h
  | cons op bs =>
    obtain short | enough := Nat.lt_or_ge bs.length (formatOf op).operandCount
    · rw [decode_of_short short] at h
      cases h
    · obtain ⟨j, hj, answer⟩ := decode_of_enough enough
      rw [h] at answer
      cases answer
      exact ⟨op, _, by rw [List.take_append_drop], hj⟩

end Decoder

/-- Every instruction stands in the map at its own opcode byte, whose entry makes it of its own operand bytes. -/
theorem makes_row (i : Instr) : (formatOf i.row.opcode).Makes i i.row.operand.bytes := by
  cases i <;> dsimp only [Instr.row, Operand.bytes] <;> constructor

/-- Every instruction's row is the table's at its opcode byte (30_encoding.md R301). -/
theorem tableEntry_row (i : Instr) : tableEntry i.row.opcode = (i.row.mnemonic, i.row.operand.mode) := by
  obtain ⟨-, -, entry⟩ := madeFrom_of_makes (makes_row i)
  exact entry.symm

/-- Settles O1: the entry at an instruction's own opcode byte makes it of its own operand bytes (`makes_row`). -/
theorem decodeOfEncodeIsTheInstruction : Obligations.DecodeOfEncodeIsTheInstruction :=
  fun i _ _ => decode_of_makes (makes_row i)

/-- Settles O2: what the entry of the first byte made has that opcode byte, those operand bytes and the table's mode
(`madeFrom_of_makes`). -/
theorem encodeOfDecodeIsTheBytes : Obligations.EncodeOfDecodeIsTheBytes := by
  intro bs rest i h
  obtain ⟨op, ops, rfl, hm⟩ := makes_of_decode h
  obtain ⟨opcode, bytes, entry⟩ := madeFrom_of_makes hm
  constructor
  · rw [Instr.wellFormed, Row.wellFormed, opcode, entry, beq_self_eq_true]
  · rw [encode, opcode, bytes, List.cons_append]

/-! ### The length of an instruction -/

/-- The length in bytes the mode of an opcode byte gives its instruction (30_encoding.md R300). -/
def Mode.length : Mode → Nat
  | .none | .implied | .accumulator => 1
  | .immediate | .zeroPage | .zeroPageX | .zeroPageY | .relative | .indirectX | .indirectY => 2
  | .absolute | .absoluteX | .absoluteY | .indirect => 3

theorem Operand.mode_length (o : Operand) : o.mode.length = o.bytes.length + 1 := by
  cases o <;> rfl

theorem MadeFrom.mode_length {i : Instr} {op : Byte} {ops : List Byte} (h : MadeFrom i op ops) :
    (tableEntry op).2.length = ops.length + 1 := by
  obtain ⟨-, rfl, entry⟩ := h
  rw [← entry, Operand.mode_length]

/-- The table's mode and the map's entry agree on the length of every opcode byte. -/
theorem mode_length_tableEntry (op : Byte) : (tableEntry op).2.length = (formatOf op).operandCount + 1 := by
  have right := formatOf_right op
  cases h : formatOf op <;> rw [h] at right
  · exact right.mode_length
  · exact (right 0).mode_length
  · exact (right 0).mode_length

/-- Settles O3: the mode's length counts the operand bytes the map's entry takes (`mode_length_tableEntry`). -/
theorem lengthFollowsFromTheOpcodeMode : Obligations.LengthFollowsFromTheOpcodeMode := by
  intro op rest n
  have length : n = (formatOf op).operandCount + 1 := mode_length_tableEntry op
  rw [length, Nat.add_sub_cancel]
  refine ⟨fun short => decode_of_short (Nat.lt_of_succ_lt_succ short), fun enough => ?_⟩
  obtain ⟨i, hi, answer⟩ := decode_of_enough (Nat.le_of_succ_le_succ enough)
  obtain ⟨opcode, bytes, entry⟩ := madeFrom_of_makes hi
  exact ⟨i, answer, opcode, entry, bytes⟩

/-- Settles O4: the decoder run on each word. -/
theorem wordsOfTheSpecDecode : Obligations.WordsOfTheSpecDecode :=
  ⟨rfl, rfl, rfl, rfl, rfl, rfl, rfl, rfl, rfl, rfl, rfl⟩

end Sys2Proof
end

section
/-! SUPPORT. What each addressing mode produces, as numbers, and which mnemonics a mode is for (O23). -/

namespace Sys2Proof.Machine

/-! ### Payloads and page crossings as numbers -/

section Payloads
variable (w : Word) (a b : Byte) (s : State)

/-- Indexing in page 0 wraps in page 0 (30_encoding.md R306). -/
theorem zext16_add_toNat : (zext16 (a + b)).toNat = (a.toNat + b.toNat) % 256 := by
  rw [zext16_toNat, BitVec.toNat_add]

/-- Indexing a word wraps modulo $10000 (R308). -/
theorem add_zext16_toNat : (w + zext16 b).toNat = (w.toNat + b.toNat) % 65536 := by
  rw [BitVec.toNat_add, zext16_toNat]

theorem crosses_add_zext16 :
    crosses w (w + zext16 b) = decide (w.toNat / 256 ≠ (w.toNat + b.toNat) % 65536 / 256) := by
  rw [crosses_eq, add_zext16_toNat]

/-- The signed offset is added modulo $10000 (R309). -/
theorem branchTarget_toNat : (branchTarget b s).toNat = ((s.cpu.pc.toNat + b.toInt) % 65536).toNat := by
  rw [branchTarget, sext16, BitVec.signExtend, BitVec.toNat_add, BitVec.toNat_ofInt]
  omega

/-- The number at the zero-page pointer `z`, its high byte read with zero-page wrap (R310, R311). -/
def pointerAt (s : State) (z : Nat) : Nat := (s.ram.read z).toNat + 256 * (s.ram.read ((z + 1) % 256)).toNat

theorem joinBytes_pointer_toNat :
    (joinBytes (s.ram.read (a + 1).toNat) (s.ram.read a.toNat)).toNat = pointerAt s a.toNat := by
  rw [joinBytes_toNat, BitVec.toNat_add, pointerAt]
  exact Nat.add_comm _ _

/-- The high byte of an indirect target is fetched from the pointer's own page (R312). -/
theorem joinBytes_samePage :
    joinBytes (hiByte w) (loByte w + 1) = BitVec.ofNat 16 (w.toNat / 256 * 256 + (w.toNat + 1) % 256) := by
  apply BitVec.eq_of_toNat_eq
  have := w.isLt
  have one : (1 : Byte).toNat = 1 := rfl
  rw [joinBytes_toNat, BitVec.toNat_add, hiByte_toNat, loByte_toNat, BitVec.toNat_ofNat, one]
  omega

end Payloads

/-! ### What each mode with an index or a pointer produces -/

section Modes
variable (w : Word) (b : Byte) (s : State)

theorem resolvesTo_absX : ResolvesTo (.absX w) s ((w.toNat + s.cpu.x.toNat) % 65536)
    (decide (w.toNat / 256 ≠ (w.toNat + s.cpu.x.toNat) % 65536 / 256)) s :=
  ⟨add_zext16_toNat w _, crosses_add_zext16 w _, rfl⟩

theorem resolvesTo_absY : ResolvesTo (.absY w) s ((w.toNat + s.cpu.y.toNat) % 65536)
    (decide (w.toNat / 256 ≠ (w.toNat + s.cpu.y.toNat) % 65536 / 256)) s :=
  ⟨add_zext16_toNat w _, crosses_add_zext16 w _, rfl⟩

theorem resolvesTo_rel : ResolvesTo (.rel b) s (branchTarget b s).toNat
    (decide ((branchReference s).toNat / 256 ≠ (branchTarget b s).toNat / 256)) s :=
  ⟨rfl, crosses_eq _ _, rfl⟩

theorem resolvesTo_indX : ResolvesTo (.indX b) s (pointerAt s ((b.toNat + s.cpu.x.toNat) % 256)) false s := by
  rw [ResolvesTo, resolve_indX, joinBytes_pointer_toNat, BitVec.toNat_add]
  exact ⟨rfl, rfl, rfl⟩

theorem resolvesTo_indY : ResolvesTo (.indY b) s ((pointerAt s b.toNat + s.cpu.y.toNat) % 65536)
    (decide (pointerAt s b.toNat / 256 ≠ (pointerAt s b.toNat + s.cpu.y.toNat) % 65536 / 256)) s := by
  rw [ResolvesTo, resolve_indY, ← joinBytes_pointer_toNat]
  exact ⟨add_zext16_toNat _ _, crosses_add_zext16 _ _, rfl⟩

/-- The two pointer reads of an indirect jump are bus reads, one after the other. -/
theorem resolvesTo_ind :
    let lo := busRead w s
    let hi := busRead (BitVec.ofNat 16 (w.toNat / 256 * 256 + (w.toNat + 1) % 256)) lo.2
    ResolvesTo (.ind w) s (lo.1.toNat + 256 * hi.1.toNat) false hi.2 := by
  rw [← joinBytes_samePage]
  exact ⟨(joinBytes_toNat _ _).trans (Nat.add_comm _ _), rfl, rfl⟩

end Modes

/-! ### Which mnemonics a mode is for -/

/-- The table has an entry for every opcode byte: its default is never taken (30_encoding.md R301). -/
theorem tableEntry_mem (op : Byte) : ∃ row ∈ opcodeTable, tableEntry op ∈ row := by
  have width : ∀ row ∈ opcodeTable, row.length = 16 := by decide
  have high : op.toNat / 16 < opcodeTable.length := Nat.div_lt_of_lt_mul op.isLt
  have row := List.getElem_mem high
  have low : op.toNat % 16 < opcodeTable[op.toNat / 16].length := by
    rw [width _ row]
    exact Nat.mod_lt _ (by decide)
  refine ⟨_, row, ?_⟩
  rw [tableEntry, List.getD_eq_getElem _ _ high, List.getD_eq_getElem _ _ low]
  exact List.getElem_mem low

/-- In the table Zero Page,Y, Relative and Indirect stand with these mnemonics only (R306, R309, R312). -/
theorem mnemonic_of_mode : ∀ row ∈ opcodeTable, ∀ e ∈ row,
    (e.2 = .zeroPageY → e.1 ∈ ([.ldx, .stx, .lax, .sax] : List Mnemonic)) ∧
    (e.2 = .relative ↔ e.1 ∈ ([.bcc, .bcs, .beq, .bne, .bmi, .bpl, .bvc, .bvs] : List Mnemonic)) ∧
    (e.2 = .indirect → e.1 = .jmp) := by decide

/-- Settles O23: each mode's payload and extra cycle as numbers, and the opcode table for the mnemonics of a mode. -/
theorem addressingModesCompute : Obligations.AddressingModesCompute := by
  intro b w s
  refine ⟨⟨rfl, rfl, rfl, rfl⟩, ⟨rfl, rfl, rfl, rfl⟩, ⟨rfl, ⟨zext16_toNat b, rfl, rfl⟩, rfl⟩,
    ⟨rfl, zext16_toNat b, rfl, rfl⟩, ⟨rfl, zext16_add_toNat b _, rfl, rfl⟩, ⟨rfl, zext16_add_toNat b _, rfl, rfl⟩,
    ⟨⟨loByte w, hiByte w, rfl, rfl, rfl, rfl, ?bytes⟩, rfl, rfl, rfl⟩, resolvesTo_absX w s, resolvesTo_absY w s,
    ⟨rfl, ?rel⟩, ⟨rfl, resolvesTo_indX b s⟩, ⟨rfl, resolvesTo_indY b s⟩, resolvesTo_ind w s, fun o ho => ?read,
    fun i => ?table⟩
  case bytes =>
    rw [loByte_toNat, hiByte_toNat, Nat.mod_add_div]
  case rel =>
    have h := resolvesTo_rel b s
    rw [branchTarget_toNat, branchReference] at h
    cases base : s.cfg.branchCrossBase <;> rw [base] at h <;> exact h
  case read =>
    exact readOperand_eq o s fun v e => ho (e ▸ rfl)
  case table =>
    obtain ⟨row, inTable, inRow⟩ := tableEntry_mem i.row.opcode
    have modes := mnemonic_of_mode row inTable _ inRow
    rwa [tableEntry_row] at modes

end Sys2Proof.Machine
end

section
/-! SUPPORT. A whole encoding table at once: its lines are right, and the instruction of each line is one operand read, one bus
write or one change of the registers. Loads, stores and transfers are such tables (O6, O7, O8). -/

namespace Sys2Proof.Machine

/-- A line with the row of its instruction and the default base cycles is right: the bytes follow. -/
theorem TableLine.Right.of_row {l : TableLine} {mn : Mnemonic} (row : l.instr.row = ⟨l.opcode, mn, l.operand⟩)
    (base : nmosBaseCycles.getD l.opcode.toNat 0 = l.base) : l.Right mn :=
  ⟨row, by rw [encode, row], base⟩

/-- The instruction of a right line means what its mnemonic means on the line's row. -/
theorem TableLine.Right.exec_eq {l : TableLine} {mn : Mnemonic} (h : l.Right mn) (s : State) :
    exec l.instr s = execRow ⟨l.opcode, mn, l.operand⟩ s := by
  obtain ⟨row, -, -⟩ := h
  rw [exec_eq_execRow, row]

section Lines
variable {lines : List TableLine} {mn : Mnemonic}
  (rows : lines.map (fun l => l.instr.row) = lines.map fun l => ⟨l.opcode, mn, l.operand⟩)
  (base : lines.map (fun l => nmosBaseCycles.getD l.opcode.toNat 0) = lines.map fun l => l.base)
include rows base

/-- A table is right when its lists of rows and of base cycles are. -/
theorem lines_right : ∀ l ∈ lines, l.Right mn := fun l hl =>
  .of_row (List.map_inj_left.mp rows l hl) (List.map_inj_left.mp base l hl)

/-- The table of a read-class mnemonic: the state after the operand read, with `f` applied to the registers. -/
theorem lines_exec_read (f : Byte → Cpu → Cpu)
    (meaning : ∀ op o, execRow ⟨op, mn, o⟩ = readInstr ⟨op, mn, o⟩ f) (s : State) :
    ∀ l ∈ lines, l.Right mn ∧ exec l.instr s = .next { (readOperand l.operand s).2.2 with
      cpu := f (readOperand l.operand s).1 s.cpu
      cycles := cost s.cfg l.opcode mn l.operand.mode (readOperand l.operand s).2.1 false } := by
  intro l hl
  have right := lines_right rows base l hl
  exact ⟨right, by rw [right.exec_eq, meaning, readInstr_eq]⟩

/-- The table of a store: one bus write of a register value at the payload, and no read of the target. -/
theorem lines_exec_store (value : Cpu → Byte)
    (meaning : ∀ op o, execRow ⟨op, mn, o⟩ = storeInstr ⟨op, mn, o⟩ value) (s : State) :
    ∀ l ∈ lines, l.Right mn ∧ exec l.instr s =
      .next { busWrite (resolve l.operand s).payload (value s.cpu) (resolve l.operand s).state with
        cycles := cost s.cfg l.opcode mn l.operand.mode (resolve l.operand s).extra false } := by
  intro l hl
  have right := lines_right rows base l hl
  exact ⟨right, by rw [right.exec_eq, meaning, storeInstr_eq]⟩

end Lines

/-- The one line of an implied mnemonic: the registers changed by `f`, and nothing else but the cycle count. -/
theorem line_exec_implied {i : Instr} {op : Byte} {mn : Mnemonic} {n : Nat} (row : i.row = ⟨op, mn, .implied⟩)
    (base : nmosBaseCycles.getD op.toNat 0 = n) (f : Cpu → Cpu)
    (meaning : ∀ op o, execRow ⟨op, mn, o⟩ = impliedInstr ⟨op, mn, o⟩ f) (s : State) :
    ∀ l ∈ ([⟨i, op, .implied, n⟩] : List TableLine), l.Right mn ∧ exec l.instr s = .next { s with
      cpu := f s.cpu
      cycles := cost s.cfg l.opcode mn .implied false false } := by
  intro l hl
  obtain rfl := List.mem_singleton.mp hl
  have right : TableLine.Right ⟨i, op, .implied, n⟩ mn := .of_row row base
  exact ⟨right, by rw [right.exec_eq, meaning, impliedInstr_eq, Operand.mode]⟩

/-- Settles O6: each load is a read-class mnemonic that puts the operand in its register and sets N and Z by it. -/
theorem loadsWriteTheirRegister : Obligations.LoadsWriteTheirRegister := by
  intro v zp w s
  refine ⟨?lda, ?ldx, ?ldy, ?lax⟩
  case lda => exact lines_exec_read rfl rfl (fun m c => { c with a := m, p := setNZ m c.p }) (fun _ _ => rfl) s
  case ldx => exact lines_exec_read rfl rfl (fun m c => { c with x := m, p := setNZ m c.p }) (fun _ _ => rfl) s
  case ldy => exact lines_exec_read rfl rfl (fun m c => { c with y := m, p := setNZ m c.p }) (fun _ _ => rfl) s
  case lax => exact lines_exec_read rfl rfl (fun m c => { c with a := m, x := m, p := setNZ m c.p }) (fun _ _ => rfl) s

/-- Settles O7: each store is one bus write of its register value. -/
theorem storesWriteTheirByte : Obligations.StoresWriteTheirByte := by
  intro zp w s
  refine ⟨?sta, ?stx, ?sty, ?sax⟩
  case sta => exact lines_exec_store rfl rfl (fun c => c.a) (fun _ _ => rfl) s
  case stx => exact lines_exec_store rfl rfl (fun c => c.x) (fun _ _ => rfl) s
  case sty => exact lines_exec_store rfl rfl (fun c => c.y) (fun _ _ => rfl) s
  case sax => exact lines_exec_store rfl rfl (fun c => c.a &&& c.x) (fun _ _ => rfl) s

/-- Settles O8: each transfer copies its source and sets N and Z by it; TXS copies X alone. -/
theorem transfersCopyTheirRegister : Obligations.TransfersCopyTheirRegister := by
  intro s
  refine ⟨?tax, ?tay, ?txa, ?tya, ?tsx, ?txs⟩
  case tax => exact line_exec_implied rfl rfl (fun c => { c with x := c.a, p := setNZ c.a c.p }) (fun _ _ => rfl) s
  case tay => exact line_exec_implied rfl rfl (fun c => { c with y := c.a, p := setNZ c.a c.p }) (fun _ _ => rfl) s
  case txa => exact line_exec_implied rfl rfl (fun c => { c with a := c.x, p := setNZ c.x c.p }) (fun _ _ => rfl) s
  case tya => exact line_exec_implied rfl rfl (fun c => { c with a := c.y, p := setNZ c.y c.p }) (fun _ _ => rfl) s
  case tsx => exact line_exec_implied rfl rfl (fun c => { c with x := c.sp, p := setNZ c.sp c.p }) (fun _ _ => rfl) s
  case txs => exact line_exec_implied rfl rfl (fun c => { c with sp := c.x }) (fun _ _ => rfl) s

end Sys2Proof.Machine
end

section
/-! SUPPORT. Arithmetic and logic (41_arithmetic_logic.md): the carry and overflow of `adcCore` as statements about integers
(O22), and the encoding tables of the mnemonics of R430 to R444 (O9 to O12). -/

namespace Sys2Proof.Machine

/-! ### ADC and SBC as integer arithmetic (R430, R431) -/

/-- A read-class instruction with an immediate operand applies its function to the operand itself. -/
theorem readInstr_imm_cpu {op m : Byte} {mn : Mnemonic} {f : Byte → Cpu → Cpu} {s t : State}
    (h : readInstr ⟨op, mn, .imm m⟩ f s = .next t) : t.cpu = f m s.cpu := by
  rw [readInstr_eq] at h
  injection h with h
  rw [← h]
  rfl

/-- The mask of the V formula tests the sign bit. -/
theorem and_signMask_eq_zero (x : Byte) : (x &&& 0x80 == 0) = !x.msb := by
  have mask : x &&& 0x80 = if x.msb then 0x80 else 0 := BitVec.and_twoPow x 7
  rw [mask]
  cases x.msb <;> rfl

/-- The signed value of the complement: the negation less one. -/
theorem toInt_complement (x : Byte) : (~~~x).toInt = -x.toInt - 1 := by
  have hx := x.isLt
  rw [BitVec.toInt_eq_toNat_cond, BitVec.toInt_eq_toNat_cond, BitVec.toNat_not]
  split <;> split <;> omega

section AdcCore
variable (m : Byte) (c : Cpu)

theorem adcCore_a_toNat : (adcCore m c).a.toNat = (c.a.toNat + m.toNat + c.p.c.toNat) % 256 :=
  BitVec.toNat_ofNat _ 8

/-- The carry of ADC says that the sum does not fit a byte. -/
theorem adcCore_c : (adcCore m c).p.c = decide (256 ≤ c.a.toNat + m.toNat + c.p.c.toNat) := rfl

/-- V of ADC: operands of one sign and a result of the other. -/
theorem adcCore_v : (adcCore m c).p.v = true ↔ c.a.msb = m.msb ∧ c.a.msb ≠ (adcCore m c).a.msb := by
  have formula : (adcCore m c).p.v =
      ((c.a ^^^ m) &&& 0x80 == 0 && !((c.a ^^^ (adcCore m c).a) &&& 0x80 == 0)) := rfl
  rw [formula, and_signMask_eq_zero, and_signMask_eq_zero]
  simp

/-- ADC leaves the whole sum in C and A. -/
theorem adcCore_sum :
    256 * (adcCore m c).p.c.toNat + (adcCore m c).a.toNat = c.a.toNat + m.toNat + c.p.c.toNat := by
  have hc := c.p.c.toNat_lt
  rw [adcCore_a_toNat, adcCore_c]
  by_cases carry : 256 ≤ c.a.toNat + m.toNat + c.p.c.toNat
  · rw [decide_eq_true carry, Bool.toNat_true]
    omega
  · rw [decide_eq_false carry, Bool.toNat_false]
    omega

/-- V of ADC is signed overflow: the sum of the signed values and the carry is out of the range of a byte. -/
theorem adcCore_overflow : (adcCore m c).p.v = true ↔
    c.a.toInt + m.toInt + c.p.c.toNat < -128 ∨ 127 < c.a.toInt + m.toInt + c.p.c.toNat := by
  have hc := c.p.c.toNat_lt
  rw [adcCore_v, BitVec.msb_eq_decide, BitVec.msb_eq_decide, BitVec.msb_eq_decide, adcCore_a_toNat, ne_eq,
    decide_eq_decide, decide_eq_decide, BitVec.toInt_eq_toNat_cond, BitVec.toInt_eq_toNat_cond]
  split <;> split <;> omega

end AdcCore

/-- Settles O22: the sum and the overflow of `adcCore`, and for SBC the same with the operand complemented. -/
theorem addAndSubtractAreExact : Obligations.AddAndSubtractAreExact := by
  intro m s t
  refine ⟨fun h => ?adc, fun h => ?sbc⟩
  case adc =>
    rw [readInstr_imm_cpu (f := adcCore) h]
    exact ⟨adcCore_sum m s.cpu, adcCore_overflow m s.cpu⟩
  case sbc =>
    have complement : (~~~m).toNat = 255 - m.toNat := BitVec.toNat_not
    have hm := m.isLt
    have hc := s.cpu.p.c.toNat_lt
    rw [readInstr_imm_cpu (f := sbcCore) h, sbcCore]
    refine ⟨?value, ?borrow, ?overflow⟩
    case value =>
      rw [adcCore_a_toNat, complement]
      omega
    case borrow =>
      rw [adcCore_c, decide_eq_true_iff, complement]
      omega
    case overflow =>
      rw [adcCore_overflow, toInt_complement]
      omega

/-! ### The encoding tables (R430 to R444) -/

/-- The flags of a compare: Z says that the register equals the operand. -/
theorem compareFlags_eq (reg m : Byte) (p : Status) : compareFlags reg m p =
    { p with n := (reg - m).getLsbD 7, z := reg == m, c := decide (m.toNat ≤ reg.toNat) } := by
  have equal : (reg - m == 0) = (reg == m) := by
    rw [Bool.beq_eq_decide_eq, Bool.beq_eq_decide_eq]
    exact decide_eq_decide.mpr sub_eq_zero
  rw [compareFlags, setNZ, equal]

section Tables
variable {lines : List TableLine} {mn : Mnemonic}
  (rows : lines.map (fun l => l.instr.row) = lines.map fun l => ⟨l.opcode, mn, l.operand⟩)
  (base : lines.map (fun l => nmosBaseCycles.getD l.opcode.toNat 0) = lines.map fun l => l.base)
include rows base

/-- The table of a compare of the register `reg`: the state after the operand read, with N, Z and C changed. -/
theorem lines_exec_compare (reg : Cpu → Byte)
    (meaning : ∀ op o, execRow ⟨op, mn, o⟩ =
      readInstr ⟨op, mn, o⟩ fun m c => { c with p := compareFlags (reg c) m c.p }) (s : State) :
    ∀ l ∈ lines, l.Right mn ∧
      (let m := readOperand l.operand s
       exec l.instr s = .next { m.2.2 with
         cpu := { s.cpu with p := { s.cpu.p with
             n := (reg s.cpu - m.1).getLsbD 7, z := reg s.cpu == m.1, c := decide (m.1.toNat ≤ (reg s.cpu).toNat) } }
         cycles := cost s.cfg l.opcode mn l.operand.mode m.2.1 false }) := by
  intro l hl
  obtain ⟨right, next⟩ := lines_exec_read rows base _ meaning s l hl
  exact ⟨right, by rw [next, compareFlags_eq]⟩

/-- The table of a read-modify-write mnemonic on memory: one bus read and one bus write at the payload, `f` giving the byte
written and the status, then `g` on the registers. -/
theorem lines_exec_rmw (memory : ∀ l ∈ lines, l.operand ≠ .accumulator) (f : Byte → Status → Byte × Status)
    (g : Byte → Cpu → Cpu) (meaning : ∀ op o, execRow ⟨op, mn, o⟩ = rmwInstr ⟨op, mn, o⟩ f g) (s : State) :
    ∀ l ∈ lines, l.Right mn ∧
      (let a := resolve l.operand s
       let m := busRead a.payload a.state
       let w := f m.1 s.cpu.p
       exec l.instr s = .next { busWrite a.payload w.1 m.2 with
         cpu := g w.1 { s.cpu with p := w.2 }
         cycles := cost s.cfg l.opcode mn l.operand.mode a.extra false }) := by
  intro l hl
  have right := lines_right rows base l hl
  exact ⟨right, by rw [right.exec_eq, meaning, rmwInstr_eq, if_neg (memory l hl)]⟩

end Tables

/-- Settles O9: ADC and SBC are read-class mnemonics that apply `adcCore` and `sbcCore` to the operand. -/
theorem addAndSubtractWithCarry : Obligations.AddAndSubtractWithCarry := by
  intro v zp w s
  refine ⟨?adc, ?sbc⟩
  case adc => exact lines_exec_read rfl rfl adcCore (fun _ _ => rfl) s
  case sbc => exact lines_exec_read rfl rfl sbcCore (fun _ _ => rfl) s

/-- Settles O10: each is a read-class mnemonic that puts the logical result in A and sets N and Z by it. -/
theorem logicOnTheAccumulator : Obligations.LogicOnTheAccumulator := by
  intro v zp w s
  refine ⟨?and, ?ora, ?eor⟩
  case and => exact lines_exec_read rfl rfl andCore (fun _ _ => rfl) s
  case ora => exact lines_exec_read rfl rfl oraCore (fun _ _ => rfl) s
  case eor => exact lines_exec_read rfl rfl eorCore (fun _ _ => rfl) s

/-- Settles O11: three compares, each of its register, and BIT, a read-class mnemonic that changes flags alone. -/
theorem compareAndBitTestFlags : Obligations.CompareAndBitTestFlags := by
  intro v zp w s
  refine ⟨?cmp, ?cpx, ?cpy, ?bit⟩
  case cmp => exact lines_exec_compare rfl rfl (fun c => c.a) (fun _ _ => rfl) s
  case cpx => exact lines_exec_compare rfl rfl (fun c => c.x) (fun _ _ => rfl) s
  case cpy => exact lines_exec_compare rfl rfl (fun c => c.y) (fun _ _ => rfl) s
  case bit => exact lines_exec_read rfl rfl (fun m c => { c with p := bitFlags c.a m c.p }) (fun _ _ => rfl) s

/-- Settles O12: INC and DEC are read-modify-write mnemonics on memory; the register forms are implied. -/
theorem incrementAndDecrement : Obligations.IncrementAndDecrement := by
  intro zp w s
  refine ⟨?inc, ?dec, ?inx, ?iny, ?dex, ?dey⟩
  case inc => exact lines_exec_rmw rfl rfl (by simp) incOp (fun _ c => c) (fun _ _ => rfl) s
  case dec => exact lines_exec_rmw rfl rfl (by simp) decOp (fun _ c => c) (fun _ _ => rfl) s
  case inx => exact line_exec_implied rfl rfl (fun c => { c with x := c.x + 1, p := setNZ (c.x + 1) c.p }) (fun _ _ => rfl) s
  case iny => exact line_exec_implied rfl rfl (fun c => { c with y := c.y + 1, p := setNZ (c.y + 1) c.p }) (fun _ _ => rfl) s
  case dex => exact line_exec_implied rfl rfl (fun c => { c with x := c.x - 1, p := setNZ (c.x - 1) c.p }) (fun _ _ => rfl) s
  case dey => exact line_exec_implied rfl rfl (fun c => { c with y := c.y - 1, p := setNZ (c.y - 1) c.p }) (fun _ _ => rfl) s

end Sys2Proof.Machine
end

section
/-! SUPPORT. Shifts, rotates and the read-modify-write compositions (42_shift_rotate_rmw.md): the accumulator form and
ROR's status said once, then the encoding tables of the mnemonics of R460 to R469 (O13, O14, O15). -/

namespace Sys2Proof.Machine

/-- Bit 7 of a byte rotated right through C is the old C: the shift leaves the bit free. -/
theorem getLsbD_rotateRight_seven (v : Byte) (c : Bool) :
    (v >>> 1 ||| (BitVec.ofBool c).setWidth 8 <<< 7).getLsbD 7 = c := by
  simp

/-- The one line of a shift or rotate of the accumulator: `f` gives A and the status. -/
theorem line_exec_accumulator {i : Instr} {op : Byte} {mn : Mnemonic} {n : Nat} (row : i.row = ⟨op, mn, .accumulator⟩)
    (base : nmosBaseCycles.getD op.toNat 0 = n) (f : Byte → Status → Byte × Status) (g : Byte → Cpu → Cpu)
    (meaning : ∀ op o, execRow ⟨op, mn, o⟩ = rmwInstr ⟨op, mn, o⟩ f g) (s : State) :
    ∀ l ∈ ([⟨i, op, .accumulator, n⟩] : List TableLine), l.Right mn ∧
      (let w := f s.cpu.a s.cpu.p
       exec l.instr s = .next { s with
         cpu := { s.cpu with a := w.1, p := w.2 }
         cycles := cost s.cfg l.opcode mn .accumulator false false }) := by
  intro l hl
  obtain rfl := List.mem_singleton.mp hl
  have right : TableLine.Right ⟨i, op, .accumulator, n⟩ mn := .of_row row base
  exact ⟨right, by rw [right.exec_eq, meaning, rmwInstr_eq, if_pos rfl]⟩

/-- The meaning of ROR with its status in closed form, N being the old C (R463). -/
theorem execRow_ror (op : Byte) (o : Operand) : execRow ⟨op, .ror, o⟩ = rmwInstr ⟨op, .ror, o⟩
    (fun v p =>
      let r := v >>> 1 ||| (BitVec.ofBool p.c).setWidth 8 <<< 7
      (r, { p with n := p.c, z := r == 0, c := v.getLsbD 0 }))
    fun _ c => c :=
  congrArg (fun f => rmwInstr ⟨op, .ror, o⟩ f fun _ c => c) <| funext₂ fun v p => by
    simp only [rorOp, setNZ, getLsbD_rotateRight_seven]

/-- Settles O13: each form is the read-modify-write of its byte operation, on A or on memory; N of ROR is the old C. -/
theorem shiftsAndRotates : Obligations.ShiftsAndRotates := by
  intro zp w s
  refine ⟨?aslAcc, ?asl, ?lsrAcc, ?lsr, ?rolAcc, ?rol, ?rorAcc, ?ror⟩
  case aslAcc => exact line_exec_accumulator rfl rfl aslOp (fun _ c => c) (fun _ _ => rfl) s
  case asl => exact lines_exec_rmw rfl rfl (by simp) aslOp (fun _ c => c) (fun _ _ => rfl) s
  case lsrAcc => exact line_exec_accumulator rfl rfl lsrOp (fun _ c => c) (fun _ _ => rfl) s
  case lsr => exact lines_exec_rmw rfl rfl (by simp) lsrOp (fun _ c => c) (fun _ _ => rfl) s
  case rolAcc => exact line_exec_accumulator rfl rfl rolOp (fun _ c => c) (fun _ _ => rfl) s
  case rol => exact lines_exec_rmw rfl rfl (by simp) rolOp (fun _ c => c) (fun _ _ => rfl) s
  case rorAcc => exact line_exec_accumulator rfl rfl _ _ execRow_ror s
  case ror => exact lines_exec_rmw rfl rfl (by simp) _ _ execRow_ror s

/-- Settles O14: the shift or rotate on memory, then the logical operation of A with the written byte. -/
theorem shiftThenLogicCompositions : Obligations.ShiftThenLogicCompositions := by
  intro zp w s
  refine ⟨?slo, ?rla, ?sre⟩
  case slo => exact lines_exec_rmw rfl rfl (by simp) aslOp oraCore (fun _ _ => rfl) s
  case rla => exact lines_exec_rmw rfl rfl (by simp) rolOp andCore (fun _ _ => rfl) s
  case sre => exact lines_exec_rmw rfl rfl (by simp) lsrOp eorCore (fun _ _ => rfl) s

/-- The meaning of DCP with the flags of its compare in closed form: Z says that A equals the written byte. -/
theorem execRow_dcp (op : Byte) (o : Operand) : execRow ⟨op, .dcp, o⟩ = rmwInstr ⟨op, .dcp, o⟩ decOp fun m c =>
    { c with p := { c.p with n := (c.a - m).getLsbD 7, z := c.a == m, c := decide (m.toNat ≤ c.a.toNat) } } := by
  simp only [← compareFlags_eq]
  rfl

/-- Settles O15: the rotate or count on memory, then ADC, CMP or SBC with the written byte; the carry into the addition of RRA
is the one `rorOp` leaves, bit 0 of the byte read. -/
theorem stepThenArithmeticCompositions : Obligations.StepThenArithmeticCompositions := by
  intro zp w s
  refine ⟨?rra, ?dcp, ?isb⟩
  case rra => exact lines_exec_rmw rfl rfl (by simp) rorOp adcCore (fun _ _ => rfl) s
  case dcp => exact lines_exec_rmw rfl rfl (by simp) decOp _ execRow_dcp s
  case isb => exact lines_exec_rmw rfl rfl (by simp) incOp sbcCore (fun _ _ => rfl) s

end Sys2Proof.Machine
end

section
/-! SUPPORT. Control flow (43_control_flow.md): the word pushed and popped in closed form, the returns that undo an entry
(O30), and the rules of the branches, the jumps, the calls and BRK (O16, O17, O18). -/

namespace Sys2Proof.Machine

/-! ### A word and a status on the stack -/

/-- The decrements of SP summed up, so that every closed form below counts from one SP. -/
theorem sub_one_sub_one (b : Byte) : b - 1 - 1 = b - 2 := by bv_omega
/-- The third decrement, of the status pushed after a word. -/
theorem sub_two_sub_one (b : Byte) : b - 2 - 1 = b - 3 := by bv_omega

/-- Two pushes in closed form: the high byte at SP, the low byte below it (20_memory.md R201). -/
theorem pushWord_eq (w : Word) (s : State) : pushWord w s =
    { s with
      ram := (s.ram.write (0x100 + s.cpu.sp.toNat) (hiByte w)).write (0x100 + (s.cpu.sp - 1).toNat) (loByte w)
      cpu := { s.cpu with sp := s.cpu.sp - 2 } } := by
  simp only [pushWord, push_eq, sub_one_sub_one]

/-- Two pops in closed form: the low byte just above SP, the high byte above that. -/
theorem popWord_eq (s : State) : popWord s =
    (joinBytes (s.ram.read (0x100 + (s.cpu.sp + 2).toNat)) (s.ram.read (0x100 + (s.cpu.sp + 1).toNat)),
      { s with cpu := { s.cpu with sp := s.cpu.sp + 2 } }) := by
  have two : s.cpu.sp + 1 + 1 = s.cpu.sp + 2 := by bv_omega
  simp only [popWord, pop_eq, two]

/-- The return from an interrupt in closed form: the status above SP, then the word above it (R502). -/
theorem returnFromInterrupt_eq (s : State) : returnFromInterrupt s =
    { s with cpu := { s.cpu with
        sp := s.cpu.sp + 3
        p := Status.unpack (s.ram.read (0x100 + (s.cpu.sp + 1).toNat))
        pc := joinBytes (s.ram.read (0x100 + (s.cpu.sp + 3).toNat)) (s.ram.read (0x100 + (s.cpu.sp + 2).toNat)) } } := by
  have two : s.cpu.sp + 1 + 1 = s.cpu.sp + 2 := by bv_omega
  have three : s.cpu.sp + 1 + 2 = s.cpu.sp + 3 := by bv_omega
  simp only [returnFromInterrupt, pop_eq, State.mapCpu, popWord_eq, two, three, State.setPc]

/-- Different values of SP address different bytes of the stack. -/
theorem stack_ne {a b : Byte} (h : a ≠ b) : 0x100 + a.toNat ≠ 0x100 + b.toNat := fun e =>
  h (BitVec.eq_of_toNat_eq (Nat.add_left_cancel e))

section Pushed
variable {m : Memory} (h : m.wf) (sp v w x : Byte)
include h

/-- The first of two pushed bytes, read back. -/
theorem read_pushed_first :
    ((m.write (0x100 + sp.toNat) v).write (0x100 + (sp - 1).toNat) w).read (0x100 + sp.toNat) = v := by
  rw [Memory.read_write_other _ _ (stack_ne (by bv_omega)), Memory.read_write_same h]

/-- The second of two pushed bytes, read back. -/
theorem read_pushed_second :
    ((m.write (0x100 + sp.toNat) v).write (0x100 + (sp - 1).toNat) w).read (0x100 + (sp - 1).toNat) = w :=
  Memory.read_write_same (Memory.write_wf h _ _) _ _

/-- Three pushed bytes, read back. -/
theorem read_pushed_three :
    let m' := ((m.write (0x100 + sp.toNat) v).write (0x100 + (sp - 1).toNat) w).write (0x100 + (sp - 2).toNat) x
    m'.read (0x100 + sp.toNat) = v ∧ m'.read (0x100 + (sp - 1).toNat) = w ∧ m'.read (0x100 + (sp - 2).toNat) = x := by
  refine ⟨?_, ?_, Memory.read_write_same (Memory.write_wf (Memory.write_wf h _ _) _ _) _ _⟩
  · rw [Memory.read_write_other _ _ (stack_ne (by bv_omega)), read_pushed_first h]
  · rw [Memory.read_write_other _ _ (stack_ne (by bv_omega)), read_pushed_second h]

end Pushed

/-! ### The returns undo the entries (O30) -/

section RoundTrips
variable {s t : State} (h : s.ram.wf)
include h

/-- RTS, with RAM and the registers but PC as the push of PC - 1 left them, restores every register (R500, R501). -/
theorem exec_rts_of_pushWord {w : Word} (ram : t.ram = (pushWord (s.cpu.pc - 1) s).ram)
    (cpu : t.cpu = { (pushWord (s.cpu.pc - 1) s).cpu with pc := w }) : ∃ u, exec .rts t = .next u ∧ u.cpu = s.cpu := by
  rw [pushWord_eq] at ram cpu
  have sp2 : s.cpu.sp - 2 + 2 = s.cpu.sp := sub_add_cancel _ _
  have sp1 : s.cpu.sp - 2 + 1 = s.cpu.sp - 1 := by bv_omega
  have popped : (popWord t).1 = s.cpu.pc - 1 := by
    simp only [popWord_eq, ram, cpu, sp2, sp1, read_pushed_first h, read_pushed_second h, joinBytes_hi_lo]
  refine ⟨_, rfl, ?_⟩
  rw [popped, sub_add_cancel, popWord_eq]
  simp only [finish_cpu, State.setPc, cpu, sp2]

/-- PLP, with RAM and the registers as the push of the status left them, restores them but for the reserved bit (R523). -/
theorem exec_plp_of_push (ram : t.ram = (push s.cpu.p.pack s).ram) (cpu : t.cpu = (push s.cpu.p.pack s).cpu) :
    ∃ u, exec .plp t = .next u ∧ u.cpu = { s.cpu with p := { s.cpu.p with r := true } } := by
  rw [push_eq] at ram cpu
  have sp1 : s.cpu.sp - 1 + 1 = s.cpu.sp := sub_add_cancel _ _
  refine ⟨_, rfl, ?_⟩
  simp only [finish_cpu, State.mapCpu, pop_eq, ram, cpu, sp1, Memory.read_write_same h, unpack_pack]

/-- RTI, with RAM and the registers as an interrupt entry left them, restores them but for B, as the entry set it, and the
reserved bit (R502, R603). -/
theorem exec_rti_of_enterInterrupt {b : Bool} {vector : Word}
    (prg : 0x8000 ≤ vector.toNat ∧ 0x8000 ≤ (vector + 1).toNat)
    (ram : t.ram = (enterInterrupt b vector s).ram) (cpu : t.cpu = (enterInterrupt b vector s).cpu) :
    ∃ u, exec .rti t = .next u ∧ u.cpu = { s.cpu with p := { s.cpu.p with b := b, r := true } } := by
  simp only [enterInterrupt_eq _ _ _ prg.1 prg.2, sub_one_sub_one, sub_two_sub_one] at ram cpu
  obtain ⟨high, low, status⟩ := read_pushed_three h s.cpu.sp (hiByte s.cpu.pc) (loByte s.cpu.pc)
    ({ s.cpu.p with b := b } : Status).pack
  have sp3 : s.cpu.sp - 3 + 3 = s.cpu.sp := sub_add_cancel _ _
  have sp2 : s.cpu.sp - 3 + 2 = s.cpu.sp - 1 := by bv_omega
  have sp1 : s.cpu.sp - 3 + 1 = s.cpu.sp - 2 := by bv_omega
  refine ⟨_, rfl, ?_⟩
  simp only [finish_cpu, returnFromInterrupt_eq, ram, cpu, sp3, sp2, sp1, high, low, status, unpack_pack, joinBytes_hi_lo]

end RoundTrips

/-- Settles O30: each return pops what its entry pushed; what stands between them changes neither RAM nor SP. -/
theorem callReturnAndStatusRoundTrips : Obligations.CallReturnAndStatusRoundTrips := by
  intro w s h
  simp only [exists_and_left]
  refine ⟨⟨_, rfl, ?rts⟩, ⟨_, rfl, ?plp⟩, ⟨_, rfl, ?brk⟩, fun pending => ?interrupt⟩
  case rts => exact exec_rts_of_pushWord h rfl rfl
  case plp => exact exec_plp_of_push h rfl rfl
  case brk => exact exec_rti_of_enterInterrupt (s := s.setPc (s.cpu.pc + 1)) h irqVector_prg rfl rfl
  case interrupt =>
    rcases interruptCheck_cases s with ⟨-, e⟩ | ⟨-, -, -, e⟩ | ⟨noNmi, noIrq, -⟩
    · rw [e]
      exact exec_rti_of_enterInterrupt (s := { s with nmiLine := false }) h nmiVector_prg rfl rfl
    · rw [e]
      exact exec_rti_of_enterInterrupt (s := { s with irqLine := false }) h irqVector_prg rfl rfl
    · rcases pending with nmi | ⟨irq, unmasked⟩
      · simp [nmi] at noNmi
      · simp [irq, unmasked] at noIrq

/-! ### Branches (O16) -/

/-- The page-cross cycle of a branch: none when target and reference lie in one page. -/
theorem charged_crosses (policy : PageCrossPolicy) (mn : Mnemonic) (mode : Mode) (ref target : Word) (taken : Bool) :
    charged policy mn mode (crosses ref target) taken =
      if target.toNat / 256 = ref.toNat / 256 then 0 else charged policy mn mode true taken := by
  rw [crosses_eq]
  by_cases same : target.toNat / 256 = ref.toNat / 256
  · simp [charged, same]
  · simp [same, Ne.symm same]

/-- The condition of a branch on the status (R491 to R498); no other mnemonic branches. -/
def branchCondition : Mnemonic → Status → Bool
  | .bcc, p => !p.c
  | .bcs, p => p.c
  | .beq, p => p.z
  | .bne, p => !p.z
  | .bmi, p => p.n
  | .bpl, p => !p.n
  | .bvc, p => !p.v
  | .bvs, p => p.v
  | _, _ => false

/-- Settles O16: each branch is `branchInstr` on its condition, and `charged_crosses` is its page-cross cycle. -/
theorem branchesFollowTheirFlag : Obligations.BranchesFollowTheirFlag := by
  intro off s x hx
  obtain ⟨right, operand, taken, meaning⟩ : x.1.Right x.2.1 ∧ x.1.operand = .rel off ∧
      branchCondition x.2.1 s.cpu.p = x.2.2 ∧
      ∀ op o, execRow ⟨op, x.2.1, o⟩ = branchInstr ⟨op, x.2.1, o⟩ (branchCondition x.2.1) := by
    simp only [List.mem_cons, List.not_mem_nil, or_false] at hx
    rcases hx with rfl | rfl | rfl | rfl | rfl | rfl | rfl | rfl
    all_goals exact ⟨.of_row rfl rfl, rfl, rfl, fun _ _ => rfl⟩
  refine ⟨right, ?_⟩
  rw [right.exec_eq, meaning, operand, branchInstr_eq, taken, cost, charged_crosses]
  cases s.cfg.pageCrossPolicy <;> rfl

/-! ### Jumps, calls, returns and BRK (O17, O18) -/

/-- A jump in closed form: the state after the pointer reads, with PC at the payload (R499). -/
theorem opJmp_eq (r : Row) (s : State) : opJmp r s = .next { (resolve r.operand s).state with
    cpu := { s.cpu with pc := (resolve r.operand s).payload }
    cycles := cost s.cfg r.opcode r.mnemonic r.operand.mode (resolve r.operand s).extra false } := by
  simp only [opJmp, finish, State.setPc, resolve_cpu, resolve_cfg]

/-- Settles O17: the closed forms of the jump and of the two pushes and the two pops of a word. -/
theorem jumpsCallsAndReturns : Obligations.JumpsCallsAndReturns := by
  intro w s
  simp only [List.forall_mem_singleton]
  refine ⟨⟨.of_row rfl rfl, ?jmpAbs⟩, ⟨.of_row rfl rfl, ?jmpInd⟩, ⟨.of_row rfl rfl, ?jsr⟩, .of_row rfl rfl, ?rts⟩
  case jmpAbs => exact opJmp_eq ⟨0x4C, .jmp, .abs w⟩ s
  case jmpInd => exact opJmp_eq ⟨0x6C, .jmp, .ind w⟩ s
  case jsr =>
    show Host.Outcome.next (finish _ false false ((pushWord (s.cpu.pc - 1) s).setPc w)) = _
    rw [pushWord_eq]
    rfl
  case rts =>
    show opRts _ s = _
    rw [opRts, popWord_eq]
    rfl

/-- Settles O18: BRK is the interrupt entry one byte on, RTI the return from it, both in closed form. -/
theorem breakEntersAndRtiReturns : Obligations.BreakEntersAndRtiReturns := by
  intro s
  simp only [List.forall_mem_singleton]
  refine ⟨⟨.of_row rfl rfl, ?brk⟩, .of_row rfl rfl, ?rti⟩
  case brk =>
    show opBrk _ s = _
    have vector : readWord 0xFFFE s = _ := readWord_prg irqVector s irqVector_prg.1 irqVector_prg.2
    simp only [opBrk, enterInterrupt_eq _ _ _ irqVector_prg.1 irqVector_prg.2, sub_one_sub_one, sub_two_sub_one, vector]
    rfl
  case rti =>
    show opRti _ s = _
    rw [opRti, returnFromInterrupt_eq]
    rfl

end Sys2Proof.Machine
end

section
/-! SUPPORT. A run of pushes undone by as many pops (O29), the flag instructions and the NOP rows (O20), and the UNDEF bytes
(O21): 44_stack_status_misc.md. -/

namespace Sys2Proof.Machine

/-! ### Runs of pushes and pops (O29) -/

/-- The last byte of a run of pushes is pushed last. -/
theorem pushAll_concat (bs : List Byte) (b : Byte) (s : State) : pushAll (bs ++ [b]) s = push b (pushAll bs s) :=
  List.foldl_concat ..

/-- A run of pushes keeps RAM canonical. -/
theorem pushAll_ram_wf (bs : List Byte) {s : State} (h : s.ram.wf) : (pushAll bs s).ram.wf := by
  induction bs using List.reverseRecOn with
  | nil => exact h
  | append_singleton bs b ih =>
    rw [pushAll_concat, push_eq]
    exact Memory.write_wf ih _ _

/-- A pop undoes a push but for RAM (10_state.md R102). -/
theorem pop_push {s : State} (h : s.ram.wf) (b : Byte) : pop (push b s) = (b, { s with ram := (push b s).ram }) := by
  simp only [pop_eq, push_eq, sub_add_cancel, Memory.read_write_same h]

/-- A run of `n` pops reads the `n` stack bytes above SP alone: on another RAM with the same bytes there it answers the same,
and it keeps RAM. -/
theorem popAll_of_stack_agree {n : Nat} {s : State} {m : Memory}
    (agree : ∀ k < n, m.read (0x100 + (s.cpu.sp + BitVec.ofNat 8 (k + 1)).toNat) =
      s.ram.read (0x100 + (s.cpu.sp + BitVec.ofNat 8 (k + 1)).toNat)) :
    popAll n { s with ram := m } = ((popAll n s).1, { (popAll n s).2 with ram := m }) := by
  induction n generalizing s with
  | zero => rfl
  | succ n ih =>
    have top : m.read (0x100 + (s.cpu.sp + 1).toNat) = s.ram.read (0x100 + (s.cpu.sp + 1).toNat) := agree 0 n.succ_pos
    have above : ∀ k, s.cpu.sp + 1 + BitVec.ofNat 8 (k + 1) = s.cpu.sp + BitVec.ofNat 8 (k + 1 + 1) := fun k => by bv_omega
    have rest := ih (s := (pop s).2) fun k hk => by
      simpa only [pop_eq, above] using agree (k + 1) (Nat.succ_lt_succ hk)
    simp only [popAll, pop_eq, top] at rest ⊢
    rw [rest]

/-- Fewer than 256 pops do not reach the stack byte at SP (44_stack_status_misc.md R521). -/
theorem popAll_write_at_sp {n : Nat} (hn : n < 256) (s : State) (v : Byte) :
    let m := s.ram.write (0x100 + s.cpu.sp.toNat) v
    popAll n { s with ram := m } = ((popAll n s).1, { (popAll n s).2 with ram := m }) := by
  refine popAll_of_stack_agree fun k hk => Memory.read_write_other _ _ (stack_ne ?_)
  bv_omega

/-- Settles O29, by induction on the list from its end: the last pushed byte is popped first, and the pops of the others do
not reach it. -/
theorem pullsReverseThePushes : Obligations.PullsReverseThePushes := by
  intro bs s
  induction bs using List.reverseRecOn with
  | nil => exact fun _ _ => rfl
  | append_singleton bs b ih =>
    intro length h
    rw [List.length_append, List.length_singleton] at length ⊢
    have others := popAll_write_at_sp (Nat.lt_of_succ_le length) (pushAll bs s) b
    have ram : (push b (pushAll bs s)).ram = (pushAll bs s).ram.write (0x100 + (pushAll bs s).cpu.sp.toNat) b := by
      rw [push_eq]
    rw [pushAll_concat, popAll, pop_push (pushAll_ram_wf bs h), ram, others, ih (Nat.le_of_succ_le length) h,
      List.reverse_concat]

/-! ### Flag instructions and NOPs (O20) -/

/-- NOP in closed form: in every mode but Indirect nothing but the cycle count changes (R531). -/
theorem opNop_eq {r : Row} (direct : ∀ w, r.operand ≠ .ind w) (s : State) : opNop r s =
    .next { s with cycles := cost s.cfg r.opcode r.mnemonic r.operand.mode (resolve r.operand s).extra false } := by
  rw [opNop, resolve_state _ _ direct, finish]

/-- A table of NOP rows: the cycle count alone, with the page-cross charge of the operand's mode. -/
theorem lines_exec_nop {lines : List TableLine}
    (rows : lines.map (fun l => l.instr.row) = lines.map fun l => ⟨l.opcode, .nop, l.operand⟩)
    (base : lines.map (fun l => nmosBaseCycles.getD l.opcode.toNat 0) = lines.map fun l => l.base)
    (direct : ∀ l ∈ lines, ∀ w, l.operand ≠ .ind w) (s : State) :
    ∀ l ∈ lines, l.Right .nop ∧ exec l.instr s = .next { s with
      cycles := cost s.cfg l.opcode .nop l.operand.mode (resolve l.operand s).extra false } := by
  intro l hl
  have right := lines_right rows base l hl
  exact ⟨right, (right.exec_eq s).trans (opNop_eq (direct l hl) s)⟩

/-- Settles O20: each flag instruction is implied and changes its flag alone; the NOP rows are one table without Indirect. -/
theorem flagInstructionsAndNops : Obligations.FlagInstructionsAndNops := by
  intro v zp w s
  refine ⟨?clc, ?sec, ?cli, ?sei, ?clv, ?cld, ?sed, ?nop⟩
  case clc => exact line_exec_implied rfl rfl (fun c => { c with p := { c.p with c := false } }) (fun _ _ => rfl) s
  case sec => exact line_exec_implied rfl rfl (fun c => { c with p := { c.p with c := true } }) (fun _ _ => rfl) s
  case cli => exact line_exec_implied rfl rfl (fun c => { c with p := { c.p with i := false } }) (fun _ _ => rfl) s
  case sei => exact line_exec_implied rfl rfl (fun c => { c with p := { c.p with i := true } }) (fun _ _ => rfl) s
  case clv => exact line_exec_implied rfl rfl (fun c => { c with p := { c.p with v := false } }) (fun _ _ => rfl) s
  case cld => exact line_exec_implied rfl rfl (fun c => { c with p := { c.p with d := false } }) (fun _ _ => rfl) s
  case sed => exact line_exec_implied rfl rfl (fun c => { c with p := { c.p with d := true } }) (fun _ _ => rfl) s
  case nop => exact lines_exec_nop rfl rfl (by simp) s

/-! ### The UNDEF bytes (O21) -/

/-- The UNDEF entries of the opcode table are those of R532. -/
theorem tableEntry_undef_iff (op : Byte) : (tableEntry op).1 = .undef ↔
    op ∈ ([0x02, 0x12, 0x22, 0x32, 0x42, 0x52, 0x62, 0x72, 0x92, 0xB2, 0xD2, 0xF2, 0x0B, 0x2B, 0x4B, 0x6B,
      0x8B, 0xAB, 0xCB, 0x93, 0x9B, 0x9C, 0x9E, 0x9F, 0xBB] : List Byte) := by
  revert op
  decide

/-- An UNDEF instruction is its opcode byte alone. -/
theorem encode_undef {i : Instr} (h : i.row.mnemonic = .undef) : encode i = [i.row.opcode] := by
  have entry := tableEntry_row i
  have mode : (tableEntry i.row.opcode).2 = .none := tableEntry_undef_mode (by rw [entry, h])
  rw [entry] at mode
  rw [encode, bytes_of_mode_none mode]

/-- Settles O21: the table decides the bytes, `exec_undef` says what the 25 instructions do, and a recorded fault stops the
step and the PPU's catch-up. -/
theorem undefinedOpcodesFault : Obligations.UndefinedOpcodesFault := by
  refine ⟨tableEntry_undef_iff, fun s i hi => ?_, fun s f hf => ⟨by simp only [step, hf], catchUp_of_fault hf⟩⟩
  have mnemonic : i.row.mnemonic = .undef := by
    revert i
    decide
  exact ⟨mnemonic, encode_undef mnemonic, exec_undef mnemonic s⟩

end Sys2Proof.Machine
end

section
/-! SUPPORT. The scanline engine, dot by dot (60_exceptions.md R630 to R638): the dot that wraps in closed form, and from it
the flags (O41), the band of tiles (O42) and the emitted frame (O44); the sprite list (O43); a run of dots (O40); the format
of a frame (O45). -/

namespace Sys2Proof.Machine

/-! ### The dot that enters a scanline -/

section Built
variable (cfg : Config) (p : Ppu) (vb hit : Bool) (dot line : Nat) (bg : List BgTile) (sp : List Sprite)

/-- What the engine builds from the PPU does not depend on the flags, the counters and the lists it builds. -/
theorem bandTile_engine : bandTile cfg { p with
    vblank := vb, sprite0Hit := hit, dot := dot, scanline := line, bgList := bg, spriteList := sp } = bandTile cfg p :=
  bandTile_congr rfl rfl rfl rfl rfl rfl

theorem spriteAt_dot : spriteAt cfg { p with dot := dot } = spriteAt cfg p := rfl

theorem emitFrame_dot : emitFrame cfg { p with dot := dot } = emitFrame cfg p := rfl

end Built

/-- The scanline after the one the counters stand at: 261 wraps to 0 (R630). -/
def Ppu.nextLine (p : Ppu) : Nat := if p.scanline = 261 then 0 else p.scanline + 1

/-- A dot that wraps, in closed form over the scanline it enters: R631 to R635, R637 and R638 at once. -/
theorem tick_wrap_eq {s : State} (hd : s.ppu.dot = 340) : tick s = { s with
    nmiLine := if s.ppu.nextLine = 241 ∧ s.ppu.ctrl.getLsbD 7 = true then true
      else if s.ppu.nextLine = 0 then false else s.nmiLine
    ppu := { s.ppu with
      dot := 0
      scanline := s.ppu.nextLine
      vblank := if s.ppu.nextLine = 241 then true else if s.ppu.nextLine = 0 then false else s.ppu.vblank
      sprite0Hit :=
        decide (s.ppu.nextLine = (s.ppu.oam.read 0).toNat ∧ s.ppu.mask.getLsbD 3 = true ∧ s.ppu.mask.getLsbD 4 = true) ||
          (decide (s.ppu.nextLine ≠ 0) && s.ppu.sprite0Hit)
      bgList := (if s.ppu.nextLine = 0 then [] else s.ppu.bgList) ++
        (if s.ppu.nextLine % 8 = 0 ∧ s.ppu.nextLine < 240 then
          (List.range 33).map (bandTile s.cfg s.ppu (s.ppu.nextLine / 8)) else [])
      spriteList := if s.ppu.nextLine = 0 then (frameStart s.cfg s.ppu).spriteList else s.ppu.spriteList }
    frameOut := if s.ppu.nextLine = 0 then s.frameOut.or (some (emitFrame s.cfg s.ppu)) else s.frameOut } := by
  by_cases hl : s.ppu.scanline = 261
  · have next : s.ppu.nextLine = 0 := if_pos hl
    rw [tick_of_frameEnd hd hl, scanlineStart_eq, frameEnd_eq, next]
    cases hf : s.frameOut <;>
      simp [sprite0Test_eq, frameStart, bandTile_engine, spriteAt_dot, emitFrame_dot]
  · have next : s.ppu.nextLine = s.ppu.scanline + 1 := if_neg hl
    rw [tick_of_wrap hd hl, scanlineStart_eq, next]
    by_cases h241 : s.ppu.scanline + 1 = 241 <;>
      simp [sprite0Test_eq, bandTile_engine, h241]

/-- Settles O41: below dot 340 `tick_of_ne`; at dot 340 field by field from `tick_wrap_eq`. -/
theorem scanlineFlagsAndNmi : Obligations.ScanlineFlagsAndNmi := by
  intro s _
  refine ⟨fun hd => tick_of_ne (Nat.ne_of_lt hd), fun hd => ?_⟩
  intro line t
  have wrap : t = _ := tick_wrap_eq hd
  rw [wrap]
  refine ⟨rfl, rfl, rfl, rfl, rfl, rfl, fun kept => ?result, rfl, rfl, rfl, rfl, rfl, rfl, rfl, rfl, rfl, rfl, rfl, rfl, rfl,
    rfl, rfl, rfl, rfl, rfl, rfl, rfl, rfl⟩
  case result =>
    show (if line = 0 then s.frameOut.or _ else s.frameOut) = s.frameOut
    rcases kept with inner | stands
    · exact if_neg inner
    · obtain ⟨f, hf⟩ := Option.isSome_iff_exists.mp stands
      simp [hf]

/-- Two bits of a byte, as the mask of the shifted byte. -/
theorem extractTwo_eq (b : Byte) (n : Nat) : b.extractLsb' n 2 = BitVec.ofNat 2 (b.toNat >>> n &&& 3) := by
  have mask : b.toNat >>> n &&& 3 = b.toNat >>> n % 4 := Nat.and_two_pow_sub_one_eq_mod _ 2
  apply BitVec.eq_of_toNat_eq
  rw [BitVec.extractLsb'_toNat, BitVec.toNat_ofNat, mask, Nat.mod_mod]

/-- Settles O42: the band of `tick_wrap_eq`, whose tiles are `bandTile` with the palette bits as a masked shift. -/
theorem bandOfTilesBuilt : Obligations.BandOfTilesBuilt := by
  intro s _
  refine ⟨fun hd => by rw [tick_of_ne (Nat.ne_of_lt hd)], fun hd => ?_⟩
  intro line p k cx0 cy0 tile
  have same : bandTile s.cfg p k = tile := by
    funext x
    simp only [bandTile, extractTwo_eq]
    rfl
  rw [tick_wrap_eq hd, ← same]
  rfl

/-- Settles O44: the result of `tick_wrap_eq` when scanline 261 ends. -/
theorem frameEmittedAtItsEnd : Obligations.FrameEmittedAtItsEnd := by
  intro s hl hd hf
  have next : s.ppu.nextLine = 0 := if_pos hl
  rw [tick_wrap_eq hd, next, hf]
  rfl

/-! ### The sprite list (O43) -/

/-- OAM entry `i` gives a sprite exactly when its Y is 2 or more (R637). -/
theorem spriteAt_eq_some_iff {cfg : Config} {p : Ppu} {i : Nat} {q : Sprite} : spriteAt cfg p i = some q ↔
    2 ≤ (p.oam.read (4 * i)).toNat ∧
      q = { oamIndex := i
            y := BitVec.ofNat 8 ((p.oam.read (4 * i)).toNat - 1)
            tile := p.oam.read (4 * i + 1)
            attr := p.oam.read (4 * i + 2)
            x := p.oam.read (4 * i + 3)
            pattern := (List.range 16).map fun j =>
              ppuRead cfg p ((if p.ctrl.getLsbD 3 then 0x1000 else 0) + (p.oam.read (4 * i + 1)).toNat * 16 + j) } := by
  by_cases visible : 2 ≤ (p.oam.read (4 * i)).toNat
  · have less : p.oam.read (4 * i) - 1 = BitVec.ofNat 8 ((p.oam.read (4 * i)).toNat - 1) := by bv_omega
    have test : ((p.oam.read (4 * i)).toNat : Int) - 1 > 0 := by omega
    simp only [spriteAt, if_pos test, less, patternAt, visible, true_and, Option.some.injEq]
    exact eq_comm
  · have test : ¬((p.oam.read (4 * i)).toNat : Int) - 1 > 0 := by omega
    simp only [spriteAt, if_neg test, visible, false_and, reduceCtorEq]

/-- Settles O43: the list is `spriteAt` over the OAM indexes in order. -/
theorem spritesOfTheFrame : Obligations.SpritesOfTheFrame := by
  intro cfg p
  refine ⟨rfl, spritePairwise cfg p List.pairwise_lt_range, fun q => ?_⟩
  simp only [frameStart, List.mem_filterMap, List.mem_range, spriteAt_eq_some_iff]

/-! ### A run of dots (O40) -/

/-- The counters are in their ranges (10_state.md R125). -/
def CountersOk (p : Ppu) : Prop := p.dot < 341 ∧ p.scanline < 262

theorem CountersOk.position_lt {p : Ppu} (h : CountersOk p) : p.position < frameDots := by
  obtain ⟨hd, hl⟩ := h
  unfold Ppu.position frameDots
  omega

/-- A dot keeps the counters in range, moves the position on by one modulo the frame, and answers a frame exactly when it is
the frame's last (R630). -/
theorem tick_position {s : State} (h : CountersOk s.ppu) :
    CountersOk (tick s).ppu ∧ (tick s).ppu.position = (s.ppu.position + 1) % frameDots ∧
      ((tick s).frameOut.isSome = true ↔ s.frameOut.isSome = true ∨ s.ppu.position + 1 = frameDots) := by
  obtain ⟨hd, hl⟩ := h
  obtain ⟨dot, line⟩ := tick_counters s
  unfold CountersOk Ppu.position frameDots
  rw [dot, line]
  by_cases wrap : s.ppu.dot = 340
  · by_cases last : s.ppu.scanline = 261
    · have next : s.ppu.nextLine = 0 := if_pos last
      rw [tick_wrap_eq wrap, next]
      simp [wrap, last]
    · rw [tick_frameOut fun ⟨_, e⟩ => last e]
      simp only [wrap, last, if_true, if_false]
      exact ⟨by omega, by omega, (or_iff_left (by omega)).symm⟩
  · rw [tick_frameOut fun ⟨e, _⟩ => wrap e]
    simp only [wrap, if_false]
    exact ⟨by omega, by omega, (or_iff_left (by omega)).symm⟩

/-- The same of a run of dots, shorter than a frame or not: the first frame end in it gives the result. -/
theorem ticks_position (n : Nat) {s : State} (h : CountersOk s.ppu) :
    CountersOk (ticks n s).ppu ∧ (ticks n s).ppu.position = (s.ppu.position + n) % frameDots ∧
      ((ticks n s).frameOut.isSome = true ↔ s.frameOut.isSome = true ∨ frameDots ≤ s.ppu.position + n) := by
  induction n generalizing s with
  | zero =>
    have start := h.position_lt
    rw [Nat.add_zero, Nat.mod_eq_of_lt start, or_iff_left (Nat.not_le.mpr start)]
    exact ⟨h, rfl, Iff.rfl⟩
  | succ n ih =>
    have start := h.position_lt
    obtain ⟨ok, position, frame⟩ := tick_position h
    obtain ⟨ok', position', frame'⟩ := ih ok
    unfold frameDots at *
    refine ⟨ok', ?_, ?_⟩
    · rw [ticks, position', position, Nat.mod_add_mod, Nat.add_right_comm, Nat.add_assoc]
    · rw [ticks, frame', frame, position, or_assoc]
      exact or_congr_right (by omega)

/-- A run of the PPU from counters in range (R630). -/
theorem runPpu_position (n : Nat) {s : State} (h : CountersOk s.ppu) :
    CountersOk (runPpu n s).ppu ∧ (runPpu n s).ppu.position = (s.ppu.position + n) % frameDots ∧
      ((runPpu n s).frameOut.isSome = true ↔ frameDots ≤ s.ppu.position + n) := by
  obtain ⟨ok, position, frame⟩ := ticks_position n (s := { s with frameOut := none }) h
  exact ⟨ok, position, frame.trans (or_iff_right (by simp))⟩

/-- Settles O40: `runPpu_position`, by induction on the number of dots. -/
theorem dotsCountModuloTheFrame : Obligations.DotsCountModuloTheFrame := by
  intro n s hd hl
  obtain ⟨⟨dot, line⟩, position, frame⟩ := runPpu_position n (s := s) ⟨hd, hl⟩
  exact ⟨dot, line, position, frame⟩

/-! ### The format of a frame (O45) -/

/-- The shape of a frame: 32 palette bytes, 30 bands of 33 tiles, sprites in OAM order (R635, R637, R638). -/
structure Frame.Formatted (f : Frame) : Prop where
  palette : f.palette.length = 32
  background : ∀ bg, f.background = some bg → bg.length = 990 ∧ ∀ x ∈ bg, x.pattern.length = 16
  sprites : ∀ sp, f.sprites = some sp → sp.Pairwise (fun q r => q.oamIndex < r.oamIndex) ∧
    ∀ q ∈ sp, q.oamIndex < 64 ∧ 1 ≤ q.y.toNat ∧ q.y.toNat ≤ 254 ∧ q.pattern.length = 16

/-- The frame emitted at the end of scanline 261 from lists in shape has that shape: all 30 bands are built by then. -/
theorem emitFrame_formatted (cfg : Config) {p : Ppu} (h : ListsOk p) (last : p.scanline = 261) :
    (emitFrame cfg p).Formatted where
  palette := by simp [emitFrame]
  background := fun bg hbg => by
    have bands := h.bands
    rw [last] at bands
    obtain ⟨-, ⟨⟩⟩ := Option.ite_none_right_eq_some.mp hbg
    exact ⟨bands, h.tiles⟩
  sprites := fun sp hsp => by
    obtain ⟨-, ⟨⟩⟩ := Option.ite_none_right_eq_some.mp hsp
    exact ⟨h.order, h.sprites⟩

/-- A dot from the invariant leaves a result of this shape, if it leaves one. -/
theorem tick_formatted {s : State} (h : s.Inv) (result : ∀ f ∈ s.frameOut, f.Formatted) :
    ∀ f ∈ (tick s).frameOut, f.Formatted := by
  by_cases ends : s.ppu.dot = 340 ∧ s.ppu.scanline = 261
  · obtain ⟨wrap, last⟩ := ends
    have next : s.ppu.nextLine = 0 := if_pos last
    rw [tick_wrap_eq wrap, next]
    cases hf : s.frameOut with
    | none =>
      rintro f ⟨⟩
      exact emitFrame_formatted s.cfg h.lists last
    | some g =>
      rintro f ⟨⟩
      exact result _ hf
  · rw [tick_frameOut ends]
    exact result

theorem ticks_formatted (n : Nat) {s : State} (h : s.Inv) (result : ∀ f ∈ s.frameOut, f.Formatted) :
    ∀ f ∈ (ticks n s).frameOut, f.Formatted := by
  induction n generalizing s with
  | zero => exact result
  | succ n ih => exact ih h.tick (tick_formatted h result)

/-- The invariant does not speak of the result of the PPU's run. -/
theorem State.Inv.withoutFrame {s : State} (h : s.Inv) : ({ s with frameOut := none } : State).Inv :=
  ⟨h.memories.congr rfl rfl rfl rfl rfl rfl, h.lists, h.dot, h.scanline, h.index, h.reserved⟩

theorem catchUp_formatted {s : State} (h : s.Inv) : ∀ f ∈ (catchUp s).frameOut, f.Formatted := by
  unfold catchUp
  split
  · exact ticks_formatted _ h.withoutFrame nofun
  · nofun

/-- A state a step answers is the PPU's catch-up of a state in the invariant that the CPU's side reached. -/
theorem step_eq_catchUp {s t : State} (h : s.Inv) (hs : step s = .next t) :
    ∃ u, t = catchUp u ∧ u.Inv ∧ CpuSideKept s u := by
  have hr : (takeIrqInput s).cpu.p.r = true := by
    rw [takeIrqInput_eq]
    exact h.reserved
  have input := CpuSideKept.takeIrqInput s
  obtain ⟨-, e⟩ | ⟨-, u, hu, k, e⟩ := step_next_cases hs
  · have dma := (dmaIteration_keeps (takeIrqInput s)).1
    have side := input.trans dma.side
    exact ⟨_, e, side.inv h (by rw [dma.cpu, hr]), side⟩
  · have side := input.trans k
    exact ⟨u, e, side.inv h (cpuStep_reserved hu hr), side⟩

/-- Settles O45: the catch-up of a state in the invariant, dot by dot. -/
theorem emittedFramesHaveTheirFormat : Obligations.EmittedFramesHaveTheirFormat := by
  intro s t f h hs hf
  obtain ⟨u, rfl, hu, -⟩ := step_eq_catchUp h hs
  obtain ⟨palette, background, sprites⟩ := catchUp_formatted hu f hf
  exact ⟨palette, background, sprites⟩

end Sys2Proof.Machine
end

section
/-! SUPPORT. The cycle count (O24, O25): every meaning ends in `finish` on its row, so the count is the `cost` of the fetched
row; and step_frame's bound (O54), at least six dots an iteration. -/

namespace Sys2Proof.Machine

/-! ### The charge and the cost (O24) -/

/-- At most one cycle is charged for a page cross (70_reset_and_hazards.md R722). -/
theorem charged_le_one (policy : PageCrossPolicy) (mn : Mnemonic) (mode : Mode) (extra taken : Bool) :
    charged policy mn mode extra taken ≤ 1 := by
  unfold charged
  repeat' split
  · exact Nat.le_refl 1
  · exact Bool.toNat_le taken
  · exact Bool.toNat_le (readClass mn)
  · exact Nat.zero_le 1

/-- READ_CLASS as the list of R722. -/
theorem readClass_toNat (mn : Mnemonic) : (readClass mn).toNat =
    if mn ∈ ([.lda, .ldx, .ldy, .lax, .adc, .sbc, .and, .ora, .eor, .cmp, .nop] : List Mnemonic) then 1 else 0 := by
  cases mn <;> rfl

/-- Settles O24: the branches of `charged`, and `cost` by its definition. -/
theorem cycleCostAndPageCrossCharge : Obligations.CycleCostAndPageCrossCharge := by
  intro cfg op mn mode extra taken
  refine ⟨rfl, rfl, rfl, fun direct => ?strict, rfl⟩
  case strict =>
    rw [← readClass_toNat]
    exact if_neg direct

/-! ### The cycle count of an iteration (O25) -/

/-- The eight branches. -/
def branchMnemonics : List Mnemonic := [.bcc, .bcs, .beq, .bne, .bmi, .bpl, .bvc, .bvs]

/-- Every meaning but UNDEF's ends in `finish` on its row, with the branch cycle for a branch only (60_exceptions.md R602). -/
theorem execRow_finish {r : Row} {s t : State} (h : execRow r s = .next t) (hn : r.mnemonic ≠ .undef) :
    ∃ extra taken u, t = finish r extra taken u ∧ (taken = true → r.mnemonic ∈ branchMnemonics) := by
  obtain ⟨op, mn, o⟩ := r
  cases mn
  case undef => exact absurd rfl hn
  case bcc | bcs | beq | bne | bmi | bpl | bvc | bvs =>
    injection h with h
    exact ⟨_, _, _, h.symm, fun _ => by simp [branchMnemonics]⟩
  case inc | dec | asl | lsr | rol | ror | slo | rla | sre | rra | dcp | isb =>
    cases o <;> injection h with h <;> exact ⟨_, false, _, h.symm, nofun⟩
  all_goals
    injection h with h
    exact ⟨_, false, _, h.symm, nofun⟩

/-- The cycle count an instruction reports: the cost of its row (R602). -/
theorem exec_cycles {i : Instr} {s t : State} (h : exec i s = .next t) (hn : i.row.mnemonic ≠ .undef) :
    ∃ extra taken, t.cycles = cost s.cfg i.row.opcode i.row.mnemonic i.row.operand.mode extra taken ∧
      (taken = true → i.row.mnemonic ∈ branchMnemonics) := by
  have cfg := (CpuSideKept.exec h).cfg
  rw [exec_eq_execRow] at h
  obtain ⟨extra, taken, u, rfl, branch⟩ := execRow_finish h hn
  exact ⟨extra, taken, by rw [← cfg]; rfl, branch⟩

/-- An admitted opcode byte has at least two base cycles in a well-formed configuration (R602). -/
theorem two_le_baseCyclesOf {c : Config} (h : c.wellFormed = true) {op : Byte} (ha : (tableEntry op).1 ≠ .undef) :
    2 ≤ c.baseCyclesOf op := by
  simp only [Config.wellFormed, Bool.and_eq_true, List.all_eq_true, List.mem_range, Bool.or_eq_true,
    Bool.not_eq_true', decide_eq_true_eq] at h
  have all := h.2 op.toNat op.isLt
  rw [BitVec.ofNat_toNat, BitVec.setWidth_eq] at all
  refine all.resolve_left ?_
  simp [admitted, ha]

set_option maxRecDepth 4000 in
/-- In the default table no opcode byte has more than eight base cycles, and a branch has two (R721). -/
theorem nmosBaseCycles_le (op : Byte) : nmosBaseCycles.getD op.toNat 0 ≤ 8 ∧
    ((tableEntry op).1 ∈ branchMnemonics → nmosBaseCycles.getD op.toNat 0 = 2) := by
  revert op
  decide

/-- The bounds of a CPU step that records no fault. -/
theorem cpuStep_cycles {s t : State} (h : cpuStep s = .next t) (wf : s.cfg.wellFormed = true) (ok : t.fault = none) :
    2 ≤ t.cycles ∧ (s.cfg.baseCycles = nmosBaseCycles → t.cycles ≤ 9) := by
  unfold cpuStep at h
  have cfg : (fetchInstr (interruptCheck s)).2.cfg = s.cfg :=
    ((interruptCheck_keeps s).1.trans (.fetchInstr _)).cfg
  generalize (fetchInstr (interruptCheck s)).1 = i at h
  have defined : i.row.mnemonic ≠ .undef := fun undef => by
    rw [exec_undef undef] at h
    injection h with h
    subst h
    cases ok
  have entry : (tableEntry i.row.opcode).1 = i.row.mnemonic := congrArg Prod.fst (tableEntry_row i)
  obtain ⟨extra, taken, cycles, branch⟩ := exec_cycles h defined
  rw [cycles, cost, cfg]
  refine ⟨?_, fun nmos => ?_⟩
  · have base := two_le_baseCyclesOf wf (entry ▸ defined)
    omega
  · obtain ⟨base, baseBranch⟩ := nmosBaseCycles_le i.row.opcode
    rw [← nmos] at base baseBranch
    have page := charged_le_one s.cfg.pageCrossPolicy i.row.mnemonic i.row.operand.mode extra taken
    unfold Config.baseCyclesOf
    cases taken
    · rw [Bool.toNat_false]
      omega
    · rw [baseBranch (entry ▸ branch rfl), Bool.toNat_true]
      omega

/-- Settles O25: the CPU's part by `cpuStep_cycles`, the DMA iteration by its stall; the catch-up leaves the count. -/
theorem everyIterationReportsAtLeastTwoCycles : Obligations.EveryIterationReportsAtLeastTwoCycles := by
  intro s t wf hs ok
  have cfg : (takeIrqInput s).cfg = s.cfg := (CpuSideKept.takeIrqInput s).cfg
  obtain ⟨hp, e⟩ | ⟨hp, u, hu, -, e⟩ := step_next_cases hs <;> rw [e] at ok ⊢
  · obtain ⟨-, -, stall, -⟩ := dmaIteration_keeps (takeIrqInput s)
    rw [(catchUp_change _).cycles, stall, cfg, hp]
    refine ⟨?_, nofun, fun _ => rfl⟩
    cases s.cfg.dmaStall <;> decide
  · rw [(catchUp_change u).fault] at ok
    obtain ⟨least, most⟩ := cpuStep_cycles hu (by rwa [cfg]) ok
    rw [cfg] at most
    rw [(catchUp_change u).cycles, hp]
    exact ⟨least, fun nmos _ => most nmos, nofun⟩

/-! ### step_frame (O54) -/

theorem State.Inv.countersOk {s : State} (h : s.Inv) : CountersOk s.ppu := ⟨h.dot, h.scanline⟩

/-- Without a recorded fault the catch-up is three dots a cycle (60_exceptions.md R660). -/
theorem catchUp_of_noFault {s : State} (h : s.fault = none) : catchUp s = runPpu (3 * s.cycles) s := by
  unfold catchUp
  rw [h]

/-- An iteration without a fault or a frame moves the position on by at least six dots. -/
theorem step_position_of_noFrame {s t : State} (h : s.Inv) (wf : s.cfg.wellFormed = true) (hs : step s = .next t)
    (ok : t.fault = none) (noFrame : t.frameOut.isSome = false) : s.ppu.position + 6 ≤ t.ppu.position := by
  obtain ⟨cycles, -⟩ := everyIterationReportsAtLeastTwoCycles s t wf hs ok
  obtain ⟨u, rfl, inv, k⟩ := step_eq_catchUp h hs
  rw [(catchUp_change u).fault] at ok
  rw [(catchUp_change u).cycles] at cycles
  have start : u.ppu.position = s.ppu.position := by rw [Ppu.position, Ppu.position, k.dot, k.scanline]
  rw [catchUp_of_noFault ok] at noFrame ⊢
  obtain ⟨-, position, frame⟩ := runPpu_position (3 * u.cycles) inv.countersOk
  have within : u.ppu.position + 3 * u.cycles < frameDots := Nat.lt_of_not_le fun past => by
    simp [frame.mpr past] at noFrame
  rw [position, Nat.mod_eq_of_lt within]
  omega

/-- A run with fuel for the dots left in the frame ends in a frame or a fault. -/
theorem runToFrame_ends (fuel : Nat) {s : State} (h : s.Inv) (wf : s.cfg.wellFormed = true) (ok : s.fault = none)
    (enough : frameDots ≤ s.ppu.position + 6 * fuel) :
    (∃ t, runToFrame fuel s = .next t ∧ t.frameOut.isSome = true) ∨ ∃ f, runToFrame fuel s = .fault f := by
  induction fuel generalizing s with
  | zero =>
    have start := h.countersOk.position_lt
    omega
  | succ fuel ih =>
    obtain ⟨t, hs, -⟩ := (onlyARecordedFaultStopsAStep s).2 ok
    simp only [runToFrame, hs]
    cases ht : t.fault with
    | some f => exact .inr ⟨f, rfl⟩
    | none =>
      cases frame : t.frameOut.isSome with
      | true => exact .inl ⟨t, rfl, frame⟩
      | false =>
        have advance := step_position_of_noFrame h wf hs ht frame
        have cfg : t.cfg = s.cfg := (cartridgeMemoryIsNeverWritten.1 s t hs).1
        exact ih (stepKeepsTheInvariant s t h hs) (by rwa [cfg]) ht (by omega)

/-- Settles O54: 14891 iterations of six dots or more are a frame's dots (R661). -/
theorem stepFrameIsBounded : Obligations.StepFrameIsBounded := by
  intro s h wf ok
  refine runToFrame_ends frameBound h wf ok ?_
  unfold frameDots frameBound
  omega

end Sys2Proof.Machine
end

section
/-! SUPPORT. The top of a CPU step: the fetch (O5), the interrupt entry (O27), the interrupt check (O28) and the IRQ line with
its external input (O59). -/

namespace Sys2Proof.Machine

/-! ### The fetch (O5) -/

/-- A CPU step whose fetch is known runs the fetched instruction, then the PPU (60_exceptions.md R602, R660). -/
theorem step_of_fetchInstr {s u t : State} {i : Instr} (ok : s.fault = none) (hp : (takeIrqInput s).dma.pending = false)
    (h : fetchInstr (interruptCheck (takeIrqInput s)) = (i, u)) (ht : exec i u = .next t) :
    step s = .next (catchUp t) := by
  have run : cpuStep (takeIrqInput s) = .next t := by rw [cpuStep, h, ht]
  rcases step_cases s with ⟨f, hf, -⟩ | ⟨-, dma, -⟩ | ⟨-, -, t', ht', -, e⟩
  · cases ok.symm.trans hf
  · rw [takeIrqInput_eq] at hp
    cases dma.symm.trans hp
  · cases run.symm.trans ht'
    exact e

/-- A fetch as O5 writes it: the bus read at PC with its side effect, then PC + 1. -/
theorem fetch8_eq (s : State) : fetch8 s = ((busRead s.cpu.pc s).1, (busRead s.cpu.pc s).2.setPc (s.cpu.pc + 1)) := by
  rw [fetch8, busRead_cpu]

/-- The byte a bus read answers does not depend on the registers. -/
theorem busRead_setPc_byte (a pc : Word) (s : State) : (busRead a (s.setPc pc)).1 = (busRead a s).1 := by
  unfold busRead
  rw [setPc_cfg]
  split <;> rfl

/-- Fetches from work RAM or PRG move PC alone (20_memory.md R209). -/
theorem repeat_fetch8_code {n : Nat} {s : State}
    (code : ∀ k < n, holdsCode s.cfg (s.cpu.pc + BitVec.ofNat 16 k) = true) :
    Nat.repeat (fun u => (fetch8 u).2) n s = s.setPc (s.cpu.pc + BitVec.ofNat 16 n) := by
  induction n with
  | zero => simp [Nat.repeat, State.setPc]
  | succ n ih =>
    have next : s.cpu.pc + BitVec.ofNat 16 n + 1 = s.cpu.pc + BitVec.ofNat 16 (n + 1) := by bv_omega
    rw [Nat.repeat, ih fun k hk => code k (Nat.lt_succ_of_lt hk), fetch8_code _ (code n n.lt_succ_self), setPc_pc, next]
    rfl

/-- Decoding needs the bytes of the instruction only: bytes that agree as far as it reaches decode alike. -/
theorem decode_of_agree {a b c a' b' c' : Byte} {i : Instr} {rest : List Byte} (h : decode [a, b, c] = .ok (i, rest))
    (ha : a' = a) (hb : 1 < (encode i).length → b' = b) (hc : 2 < (encode i).length → c' = c) :
    ∃ rest', decode [a', b', c'] = .ok (i, rest') := by
  obtain ⟨op, ops, bytes, made⟩ := makes_of_decode h
  obtain ⟨opcode, operand, -⟩ := madeFrom_of_makes made
  have length : (encode i).length = ops.length + 1 := by rw [encode, operand, List.length_cons]
  rw [length] at hb hc
  suffices ∃ rest', [a', b', c'] = op :: (ops ++ rest') by
    obtain ⟨rest', e⟩ := this
    exact ⟨rest', e ▸ decode_of_makes made⟩
  subst ha
  match ops with
  | [] => exact ⟨[b', c'], by simp_all⟩
  | [x] => exact ⟨[c'], by simp_all⟩
  | [x, y] => exact ⟨[], by simp_all⟩
  | x :: y :: z :: ops => simp at bytes

/-- Settles O5: `fetchInstr_of_decode` for bytes anywhere; from work RAM or PRG the fetches only move PC, so they read the
bytes of the state itself. -/
theorem stepRunsTheDecodedInstruction : Obligations.StepRunsTheDecodedInstruction := by
  intro s i rest v fetched afterFetch byteAt runsOn ok hp
  have after : afterFetch = fun u => (fetch8 u).2 := funext fun u => by rw [fetch8_eq]
  have byte : fetched = fun u => (fetch8 u).1 := rfl
  have runs {rest : List Byte}
      (h : decode [fetched v, fetched (afterFetch v), fetched (afterFetch (afterFetch v))] = .ok (i, rest)) :
      runsOn (Nat.repeat afterFetch (encode i).length v) := by
    rw [after, byte] at h
    rw [after]
    obtain ⟨t, ht⟩ := exec_next i (Nat.repeat (fun u => (fetch8 u).2) (encode i).length v)
    dsimp only [runsOn]
    rw [ht]
    exact step_of_fetchInstr ok hp (fetchInstr_of_decode h) ht
  refine ⟨runs, fun h code => ?_⟩
  have moved (n : Nat) (hn : n ≤ (encode i).length) :
      Nat.repeat afterFetch n v = v.setPc (v.cpu.pc + BitVec.ofNat 16 n) := by
    rw [after]
    exact repeat_fetch8_code fun k hk => code k (Nat.lt_of_lt_of_le hk hn)
  have reads (n : Nat) (hn : n ≤ (encode i).length) : fetched (Nat.repeat afterFetch n v) = byteAt n := by
    rw [moved n hn]
    exact busRead_setPc_byte _ _ v
  obtain ⟨rest', h'⟩ := decode_of_agree h (reads 0 (Nat.zero_le _)) (fun h1 => reads 1 (Nat.le_of_lt h1))
    (fun h2 => reads 2 (Nat.le_of_lt h2))
  exact moved _ (Nat.le_refl _) ▸ runs h'

/-! ### The interrupt entry (O27) -/

/-- Settles O27: `enterInterrupt_eq` with B = 0, and the two vectors. -/
theorem interruptEntrySequence : Obligations.InterruptEntrySequence := by
  refine ⟨rfl, rfl, rfl, fun s vector hv => ?_⟩
  intro word
  obtain ⟨low, high, pc⟩ : 0x8000 ≤ vector.toNat ∧ 0x8000 ≤ (vector + 1).toNat ∧ vectorWord s.cfg vector = word := by
    simp only [List.mem_cons, List.not_mem_nil, or_false] at hv
    obtain rfl | rfl := hv
    · exact ⟨nmiVector_prg.1, nmiVector_prg.2, rfl⟩
    · exact ⟨irqVector_prg.1, irqVector_prg.2, rfl⟩
  simp only [dispatch, enterInterrupt_eq _ _ _ low high, sub_one_sub_one, sub_two_sub_one, pc]

/-! ### The interrupt check (O28) -/

/-- A dispatch itself clears no line: the check does, before it. -/
theorem dispatch_lines (vector : Word) (s : State) :
    (dispatch vector s).irqLine = s.irqLine ∧ (dispatch vector s).nmiLine = s.nmiLine := by
  simp [dispatch, enterInterrupt, readWord, pushWord, push_eq]

/-- Settles O28: the three cases of `interruptCheck_cases`, which exclude each other. -/
theorem interruptPriorityAndMask : Obligations.InterruptPriorityAndMask := by
  intro s
  rcases interruptCheck_cases s with ⟨nmi, e⟩ | ⟨noNmi, irq, unmasked, e⟩ | ⟨noNmi, noIrq, e⟩
  · obtain ⟨irqLine, nmiLine⟩ := dispatch_lines nmiVector { s with nmiLine := false }
    refine ⟨fun _ => ⟨e, ?_, ?_⟩, fun h => ?_, fun h => ?_⟩
    · rw [e, irqLine]
    · rw [e, nmiLine]
    · simp [nmi] at h
    · simp [nmi] at h
  · obtain ⟨irqLine, -⟩ := dispatch_lines irqVector { s with irqLine := false }
    refine ⟨fun h => ?_, fun _ _ _ => ⟨e, by rw [e, irqLine]⟩, fun _ h => ?_⟩
    · simp [noNmi] at h
    · simp [irq, unmasked] at h
  · refine ⟨fun h => ?_, fun _ irq unmasked => ?_, fun _ _ => e⟩
    · simp [noNmi] at h
    · simp [irq, unmasked] at noIrq

/-! ### The IRQ line and its input (O59) -/

/-- What a step leaves on the IRQ line: an assertion that stood before it or that its own schedule entry made, unless its CPU
part took it (60_exceptions.md R605, R613). -/
theorem step_irq {s t : State} (hs : step s = .next t) :
    t.irqLine = ((s.irqLine || s.irqInput.headD false) && (s.dma.pending || s.nmiLine || s.cpu.p.i)) ∧
      t.irqInput = s.irqInput.tail := by
  have input := takeIrqInput_eq s
  obtain ⟨hp, e⟩ | ⟨hp, u, hu, -, e⟩ := step_next_cases hs
  · have dma := (dmaIteration_keeps (takeIrqInput s)).1
    have c := catchUp_change (dmaIteration (takeIrqInput s))
    rw [e, c.irqLine, c.irqInput, dma.irqLine, dma.irqInput, input, hp]
    simp
  · obtain ⟨irqLine, irqInput⟩ := cpuStep_irq hu
    have c := catchUp_change u
    rw [e, c.irqLine, c.irqInput, irqLine, irqInput, input, hp]
    simp

/-- The line is asserted before an iteration when it stood so or the iteration's schedule entry says so. -/
theorem irqAsserted_iff (s : State) : (s.irqLine || s.irqInput.headD false) = true ↔
    s.irqLine = true ∨ ∃ rest, s.irqInput = true :: rest := by
  cases s.irqInput <;> simp

/-- Settles O59: the IRQ input by its definition, a step by `step_irq`, and the check that takes an unmasked IRQ. -/
theorem theIrqLineFollowsItsInput : Obligations.TheIrqLineFollowsItsInput := by
  intro s
  refine ⟨rfl, fun h => ?empty, fun b rest h => ?entry, fun t hs => ?step, fun rest h noNmi unmasked => ?taken⟩
  case empty => simp only [takeIrqInput, h]
  case entry => simp only [takeIrqInput, h]
  case step =>
    obtain ⟨irqLine, irqInput⟩ := step_irq hs
    rw [irqLine, irqInput, ← irqAsserted_iff, Bool.and_eq_true]
    exact ⟨rfl, And.left, fun asserted => by rw [asserted, Bool.true_and]⟩
  case taken =>
    have input : takeIrqInput s = { s with irqLine := s.irqLine || true, irqInput := rest } := by
      simp only [takeIrqInput, h]
    rw [Bool.or_true] at input
    rw [input]
    obtain ⟨-, take, -⟩ := interruptPriorityAndMask { s with irqLine := true, irqInput := rest }
    exact (take noNmi rfl unmasked).1

end Sys2Proof.Machine
end

section
/-! SUPPORT. What stands behind the CPU bus: the PPU's register file (O39), the controller port (O47) and the host's button
latch (O60). -/

namespace Sys2Proof.Machine

/-! ### The register file (O39) -/

/-- The VRAM address after an access of $2007, as a number (60_exceptions.md R628). -/
theorem vramAddr_add_step (p : Ppu) :
    p.vramAddr + vramStep p = BitVec.ofNat 16 (p.vramAddr.toNat + if p.ctrl.getLsbD 2 then 32 else 1) := by
  unfold vramStep
  split <;> bv_omega

theorem dataRead_palette (cfg : Config) {p : Ppu} (h : 0x3F00 ≤ effectiveAddr p) : dataRead cfg p =
    (paletteRead cfg p (effectiveAddr p &&& 0x1F), { p with vramAddr := p.vramAddr + vramStep p }) :=
  if_pos h

theorem dataRead_buffered (cfg : Config) {p : Ppu} (h : effectiveAddr p < 0x3F00) : dataRead cfg p =
    (p.readBuffer, { p with readBuffer := ppuRead cfg p (effectiveAddr p), vramAddr := p.vramAddr + vramStep p }) :=
  if_neg (Nat.not_le.mpr h)

/-- The write-only registers read 0 without effect (R620). -/
theorem ppuRegRead_writeOnly (cfg : Config) (p : Ppu) {n : Nat} (h : n = 0 ∨ n = 1 ∨ n = 3 ∨ n = 5 ∨ n = 6) :
    ppuRegRead cfg (.ofIndex n) p = (0, p) := by
  rcases h with rfl | rfl | rfl | rfl | rfl <;> rfl

/-- An address write, as numbers: the first byte times 256, the second added (R627). -/
theorem addrWrite_eq (p : Ppu) (v : Byte) : addrWrite p v =
    if p.w then { p with vramAddr := BitVec.ofNat 16 (p.vramAddr.toNat + v.toNat), w := false }
    else { p with vramAddr := BitVec.ofNat 16 (v.toNat * 256), w := true } := by
  have add : p.vramAddr + v.setWidth 16 = BitVec.ofNat 16 (p.vramAddr.toNat + v.toNat) := by bv_omega
  have high : v.setWidth 16 <<< 8 = BitVec.ofNat 16 (v.toNat * 256) := by
    have := v.isLt
    apply BitVec.eq_of_toNat_eq
    rw [BitVec.toNat_shiftLeft, BitVec.toNat_setWidth, BitVec.toNat_ofNat, Nat.shiftLeft_eq]
    omega
  rw [addrWrite, add, high]

/-- Settles O39: the access of the window, then the register its index selects. -/
theorem ppuRegisterFile : Obligations.PpuRegisterFile := by
  intro a v s low high r p e next
  have step : p.vramAddr + vramStep p = next := vramAddr_add_step p
  have read : busRead a s = ((ppuRegRead s.cfg (.ofIndex r) p).1, { s with ppu := (ppuRegRead s.cfg (.ofIndex r) p).2 }) :=
    busRead_window s low high
  have write : busWrite a v s = { s with ppu := ppuRegWrite s.cfg (.ofIndex r) v p } := busWrite_window v s low high
  rw [read, write]
  refine ⟨fun h => ?status, fun h => ?oamData, fun h he => ?palette, fun h he => ?buffered, fun h => ?writeOnly,
    fun h => ?ctrl, fun h => ?mask, fun h => ?noEffect, fun h => ?oamAddr, fun h => ?oamDataWrite, fun h => ?scroll,
    fun h => ?addr, fun h => ?data⟩
  case palette =>
    rw [h]
    simp only [PpuReg.ofIndex, ppuRegRead, dataRead_palette s.cfg he, step]
    rfl
  case buffered =>
    rw [h]
    simp only [PpuReg.ofIndex, ppuRegRead, dataRead_buffered s.cfg he, step]
    rfl
  case writeOnly => rw [ppuRegRead_writeOnly s.cfg p h]
  case addr =>
    rw [h, ← addrWrite_eq]
    rfl
  case data =>
    rw [h, ← step]
    rfl
  all_goals
    rw [h]
    rfl

/-! ### The controller port (O47) -/

section Port
variable (s : State)

/-- The controller answers at $4016 (20_memory.md R204, R205). -/
theorem busRead_4016 : busRead 0x4016 s = (s.pad.read.1, { s with pad := s.pad.read.2 }) := busRead_controller s rfl

theorem busWrite_4016 (v : Byte) : busWrite 0x4016 v s = { s with pad := s.pad.write v } := busWrite_controller v s rfl

end Port

/-- The bit the port answers at an index: the snapshot's, and 1 past its eight bits (60_exceptions.md R651). -/
def Controller.bitAt (c : Controller) (k : Nat) : Byte :=
  if k < 8 then (if c.snapshot.getLsbD k then 1 else 0) else 1

/-- A read answers the bit at the index, and moves the index on until all eight bits are read. -/
theorem Controller.read_eq (c : Controller) :
    c.read = (c.bitAt c.index, if c.index < 8 then { c with index := c.index + 1 } else c) := by
  have bit : (BitVec.ofBool (c.snapshot.getLsbD c.index)).setWidth 8 =
      if c.snapshot.getLsbD c.index then (1 : Byte) else 0 := by
    cases c.snapshot.getLsbD c.index <;> rfl
  unfold Controller.read Controller.bitAt
  split
  · rw [bit]
  · rfl

/-- A run of reads answers the bits from the index on. -/
theorem readPad_eq (n : Nat) (s : State) : (readPad n s).1 = (List.range n).map fun k => s.pad.bitAt (s.pad.index + k) := by
  induction n generalizing s with
  | zero => rfl
  | succ n ih =>
    have tail (k : Nat) : s.pad.read.2.bitAt (s.pad.read.2.index + k) = s.pad.bitAt (s.pad.index + (k + 1)) := by
      rw [Controller.read_eq]
      dsimp only
      split
      · rw [Nat.add_assoc, Nat.add_comm 1 k]
        rfl
      · unfold Controller.bitAt
        rw [if_neg (by omega), if_neg (by omega)]
    rw [readPad, ih, busRead_4016, List.range_succ_eq_map, List.map_cons, List.map_map]
    exact congrArg₂ List.cons (by rw [Controller.read_eq]; rfl) (List.map_congr_left fun k _ => tail k)

/-- From index 0 on, the eight bits of the snapshot, bit 0 first, and then ones. -/
theorem readPad_of_index_zero (n : Nat) {s : State} (h : s.pad.index = 0) : (readPad (8 + n) s).1 =
    (List.range 8).map (fun k => if s.pad.snapshot.getLsbD k then (1 : Byte) else 0) ++ List.replicate n 1 := by
  have bits : ∀ k ∈ List.range 8, s.pad.bitAt k = if s.pad.snapshot.getLsbD k then 1 else 0 := fun k hk =>
    if_pos (List.mem_range.mp hk)
  have ones : ∀ k, s.pad.bitAt (8 + k) = 1 := fun k => if_neg (by omega)
  simp only [readPad_eq, h, Nat.zero_add, List.range_add, List.map_append, List.map_map, Function.comp_def, ones,
    List.map_const', List.length_range, List.map_congr_left bits]

/-- A strobe sequence captures the live buttons and resets the index (R650). -/
theorem pad_after_strobe {v0 v1 : Byte} (h0 : v0.getLsbD 0 = false) (h1 : v1.getLsbD 0 = true) (s : State) :
    (busWrite 0x4016 v0 (busWrite 0x4016 v1 s)).pad =
      { s.pad with snapshot := s.pad.liveButtons, index := 0, strobe := false } := by
  simp only [busWrite_4016, Controller.write, h0, h1, if_true, Bool.false_eq_true, if_false]

/-- The reads after a strobe sequence answer the live buttons. -/
theorem readPad_after_strobe {v0 v1 : Byte} (h0 : v0.getLsbD 0 = false) (h1 : v1.getLsbD 0 = true) (n : Nat) (s : State) :
    (readPad (8 + n) (busWrite 0x4016 v0 (busWrite 0x4016 v1 s))).1 =
      (List.range 8).map (fun k => if s.pad.liveButtons.getLsbD k then (1 : Byte) else 0) ++ List.replicate n 1 := by
  have pad := pad_after_strobe h0 h1 s
  rw [readPad_of_index_zero n (by rw [pad]), pad]

/-- Settles O47: `Controller.write` and `Controller.read_eq` case by case, and `readPad_after_strobe`. -/
theorem controllerReadsTheButtonsInOrder : Obligations.ControllerReadsTheButtonsInOrder := by
  intro s v0 v1 n h0 h1
  refine ⟨?raise, ?capture, fun h => ?bit, fun h => ?ones, readPad_after_strobe h0 h1 n s⟩
  case raise => simp only [busWrite_4016, Controller.write, h1, if_true]
  case capture => simp only [busWrite_4016, Controller.write, h0, Bool.false_eq_true, if_false]
  case bit => simp only [busRead_4016, Controller.read_eq, Controller.bitAt, h, if_true]
  case ones => simp only [busRead_4016, Controller.read_eq, Controller.bitAt, Nat.not_lt.mpr h, if_false]

/-! ### The button latch (O60) -/

/-- Settles O60: reads answer the snapshot, which the latch leaves; no step writes the live buttons (O53); a strobe sequence
captures them. -/
theorem latchedButtonsAreReadAfterTheNextStrobe : Obligations.LatchedButtonsAreReadAfterTheNextStrobe := by
  intro buttons s
  refine ⟨rfl, fun n => ?before, fun t hs => ?step, fun v0 v1 n h0 h1 => readPad_after_strobe h0 h1 n _⟩
  case before =>
    rw [readPad_eq, readPad_eq]
    rfl
  case step =>
    obtain ⟨-, -, live, -⟩ := cartridgeMemoryIsNeverWritten.1 _ t hs
    exact live

end Sys2Proof.Machine
end

section
/-! SUPPORT. The DMA transfer byte by byte and the iteration that makes it (60_exceptions.md R641, R642; O46). -/

namespace Sys2Proof.Machine

/-! ### One byte of a transfer -/

/-- The byte a transfer reads for OAM index `i` in a state (R641). -/
def dmaValue (s : State) (i : Nat) : Byte :=
  match s.cfg.dmaHighPageSource with
  | .ramMirror => s.ram.read ((dmaSource s i).toNat % 0x800)
  | .cpuBus => (busRead (dmaSource s i) s).1

theorem dmaSource_toNat (s : State) {i : Nat} (hi : i < 256) : (dmaSource s i).toNat = s.dma.page.toNat * 256 + i := by
  rw [dmaSource, joinBytes_toNat, BitVec.toNat_ofNat, Nat.mul_comm]
  omega

/-- No bus read reaches OAM. -/
theorem busRead_oam (a : Word) (s : State) : (busRead a s).2.ppu.oam = s.ppu.oam := by
  rcases busRead_state a s with ⟨_, _, _, _, e⟩ | e <;> rw [e]

/-- One byte of a transfer writes its OAM index. -/
theorem dmaByte_oam (s : State) (i : Nat) : (dmaByte s i).ppu.oam = s.ppu.oam.write i (dmaValue s i) := by
  unfold dmaValue
  cases h : s.cfg.dmaHighPageSource
  · rw [(dmaByte_eq s i).1 h]
  · rw [(dmaByte_eq s i).2 h, busRead_oam]

/-! ### A whole transfer -/

/-- After the first `n` bytes OAM is canonical and holds, below `n`, the bytes read in the states before them. -/
theorem dmaBytes_oam (n : Nat) {s : State} (h : s.ppu.oam.wf) :
    ((List.range n).foldl dmaByte s).ppu.oam.wf ∧
      ∀ i < n, ((List.range n).foldl dmaByte s).ppu.oam.read i = dmaValue ((List.range i).foldl dmaByte s) i := by
  induction n with
  | zero => exact ⟨h, nofun⟩
  | succ n ih =>
    obtain ⟨wf, bytes⟩ := ih
    rw [List.range_succ, List.foldl_concat, dmaByte_oam]
    refine ⟨Memory.write_wf wf _ _, fun i hi => ?_⟩
    obtain below | rfl := Nat.lt_succ_iff_lt_or_eq.mp hi
    · rw [Memory.read_write_other _ _ (Nat.ne_of_gt below), bytes i below]
    · exact Memory.read_write_same wf _ _

/-- The byte a transfer reads for index `i`, through what the transfer leaves of the start state. -/
theorem dmaValue_of_kept {s u : State} (k : DmaKept s u) {i : Nat} (hi : i < 256) : dmaValue u i =
    match s.cfg.dmaHighPageSource with
    | .ramMirror => s.ram.read ((s.dma.page.toNat * 256 + i) &&& 0x07FF)
    | .cpuBus => (busRead (BitVec.ofNat 16 (s.dma.page.toNat * 256 + i)) u).1 := by
  have source : (dmaSource u i).toNat = s.dma.page.toNat * 256 + i := by rw [dmaSource_toNat u hi, k.page]
  have address : dmaSource u i = BitVec.ofNat 16 (s.dma.page.toNat * 256 + i) := by
    rw [← source, BitVec.ofNat_toNat, BitVec.setWidth_eq]
  rw [dmaValue, k.side.cfg]
  cases s.cfg.dmaHighPageSource
  · simp only [source, k.ram, ramMask]
  · simp only [address]

/-! ### The schedule stands apart from a transfer -/

section Irq
variable (s : State) (line : Bool) (input : List Bool)

theorem busRead_withIrq (a : Word) : busRead a { s with irqLine := line, irqInput := input } =
    ((busRead a s).1, { (busRead a s).2 with irqLine := line, irqInput := input }) := by
  unfold busRead
  dsimp only
  split <;> rfl

theorem dmaByte_withIrq (i : Nat) : dmaByte { s with irqLine := line, irqInput := input } i =
    { dmaByte s i with irqLine := line, irqInput := input } := by
  obtain ⟨ramMirror, cpuBus⟩ := dmaByte_eq { s with irqLine := line, irqInput := input } i
  cases h : s.cfg.dmaHighPageSource
  · rw [ramMirror h, (dmaByte_eq s i).1 h]
    rfl
  · rw [cpuBus h, (dmaByte_eq s i).2 h, busRead_withIrq]
    rfl

theorem dmaBytes_withIrq (l : List Nat) : l.foldl dmaByte { s with irqLine := line, irqInput := input } =
    { l.foldl dmaByte s with irqLine := line, irqInput := input } := by
  induction l generalizing s with
  | nil => rfl
  | cons i l ih => rw [List.foldl_cons, List.foldl_cons, dmaByte_withIrq, ih]

end Irq

/-- The IRQ input before an iteration does not change the transfer. -/
theorem dmaRun_takeIrqInput_oam (s : State) : (dmaRun (takeIrqInput s)).ppu.oam = (dmaRun s).ppu.oam := by
  rw [takeIrqInput_eq]
  simp only [dmaRun, dmaBytes_withIrq]

/-! ### The iteration -/

/-- A step with a DMA pending: the transfer and the stall, then the PPU; the CPU and RAM stand still (R642). -/
theorem step_dma {s : State} (ok : s.fault = none) (hp : s.dma.pending = true) (counters : CountersOk s.ppu) :
    ∃ t, step s = .next t ∧ t.cpu = s.cpu ∧ t.ram = s.ram ∧ t.cfg = s.cfg ∧ t.fault = none ∧
      t.dma.pending = false ∧ t.ppu.oam = (dmaRun s).ppu.oam ∧ t.cycles = s.cfg.dmaStall.toNat ∧
      t.ppu.position = (s.ppu.position + 3 * t.cycles) % frameDots ∧ (s.irqLine = true → t.irqLine = true) := by
  obtain ⟨k, noDma, stall, oam⟩ := dmaIteration_keeps (takeIrqInput s)
  rw [dmaRun_takeIrqInput_oam] at oam
  rw [takeIrqInput_eq] at k stall noDma oam
  have next : step s = .next (catchUp (dmaIteration (takeIrqInput s))) := by
    rcases step_cases s with ⟨f, hf, -⟩ | ⟨-, -, e⟩ | ⟨-, no, -⟩
    · cases ok.symm.trans hf
    · exact e
    · cases hp.symm.trans no
  rw [takeIrqInput_eq] at next
  refine ⟨_, next, ?_⟩
  generalize dmaIteration _ = u at k noDma stall oam
  have c := catchUp_change u
  have position : (catchUp u).ppu.position = (s.ppu.position + 3 * u.cycles) % frameDots := by
    have start : u.ppu.position = s.ppu.position := by rw [Ppu.position, Ppu.position, k.side.dot, k.side.scanline]
    have inRange : CountersOk u.ppu := by rwa [CountersOk, k.side.dot, k.side.scanline]
    rw [catchUp_of_noFault (k.fault.trans ok), (runPpu_position _ inRange).2.1, start]
  refine ⟨c.cpu.trans k.cpu, c.ram.trans k.ram, c.cfg.trans k.side.cfg, c.fault.trans (k.fault.trans ok), ?_,
    c.oam.trans oam, c.cycles.trans stall, by rw [c.cycles, position], fun asserted => ?_⟩
  · rw [c.dma, noDma]
  · rw [c.irqLine, k.irqLine, asserted, Bool.true_or]

/-- Settles O46: the transfer by `dmaBytes_oam`, what it leaves by `DmaKept`, the iteration by `step_dma`. -/
theorem dmaFillsOamAndStalls : Obligations.DmaFillsOamAndStalls := by
  intro s h
  obtain ⟨k, noDma⟩ := DmaKept.run s
  refine ⟨fun i hi => ?bytes, ?register, k.oamAddr, k.ram, k.cpu, k.chr, k.vram, k.palette,
    fun ok hp hd hl => ?iteration⟩
  case bytes =>
    have before : DmaKept s ((List.range i).foldl dmaByte s) :=
      .bytes _ (fun j hj => Nat.lt_trans (List.mem_range.mp hj) hi) s
    have read : (dmaRun s).ppu.oam.read i = dmaValue ((List.range i).foldl dmaByte s) i := (dmaBytes_oam 256 h).2 i hi
    exact read.trans (dmaValue_of_kept before hi)
  case register =>
    have page := k.page
    cases hr : (dmaRun s).dma
    rw [hr] at page noDma
    simp_all
  case iteration =>
    obtain ⟨t, next, cpu, ram, cfg, noFault, pending, oam, cycles, rest⟩ := step_dma ok hp ⟨hd, hl⟩
    refine ⟨t, next, cpu, ram, cfg, noFault, pending, oam, ?_, rest⟩
    rw [cycles]
    cases s.cfg.dmaStall <;> rfl

end Sys2Proof.Machine
end
